-- ==== Sys2Proof/Word.lean ====
section
/-!
DEFINITION. Word.lean: the words and names that commands carry: line characters, channel and station numbers, the
takings of a half-cycle event, the levels and the order that come with one.
-/

namespace Sys2Proof

/-- One line character or option byte: eight bits, bit 0 the least significant (09_notices.md section 9.6). -/
abbrev Byte := BitVec 8

/-- A channel of a node, 0..3 (00_scope.md, "channel"). -/
abbrev Channel := Fin 4

/-- A line address, 0..15 (00_scope.md, "station"). -/
abbrev Station := Fin 16

/-- The four channels in order (R155: channel 0 to channel 3). -/
def allChannels : List Channel := [0, 1, 2, 3]

/-- The sixteen line addresses in order (R118). -/
def allStations : List Station := [0, 1, 2, 3, 4, 5, 6, 7, 8, 9, 10, 11, 12, 13, 14, 15]

/-- One block's taking of a half-cycle event (R13's table of the blocks that act on it). Where the manual lets two blocks
take one event in either order, the order of these items says which comes first (log 1, DESIGN CHOICE, safe). -/
inductive Taking where
  /-- Option Loader: the count of burst starts in LISTEN (R174). -/
  | listen
  /-- Peer Table: one station's silence countdown at a burst start (R121). -/
  | silence (a : Station)
  /-- Spark Arbiter: the head dwell count (R100). -/
  | dwell
  /-- Load Plan: the map swap at a burst start (R67). -/
  | swap
  /-- Element Driver: its placement result of the swap (R68, R84). -/
  | result (c : Channel)
  /-- Element Driver: the demand sample at a burst start (R81). -/
  | sample (c : Channel)
  /-- Element Driver: setting the relay (R86). -/
  | relay (c : Channel)
  /-- Gas Sequencer: the three steps of R95. -/
  | flame (c : Channel)
  /-- Zone Program Unit: considering the event for counting (R34). -/
  | count (c : Channel)
  /-- Peer Table: the presence count at a burst start in RUN (R128). -/
  | presence
  /-- Load Plan: the plan computation's start at a plan point (R61). -/
  | plan
  /-- Line Transmitter: the selection (R141). -/
  | select
  /-- Element Driver or Gas Sequencer: a hand-over that meets the event (R22, R89, R116): the driver takes the oldest level handed to
  it. It is no part of every event: only the sender's order puts one into an event, and as often as it names it. -/
  | handover (c : Channel)
  deriving DecidableEq, Repr

/-- A hand-over that meets the event; every other taking belongs to every event (R13, R22). -/
def Taking.isHandover : Taking → Bool
  | .handover _ => true
  | _ => false

/-- What the outside gives a half-cycle event: the levels of the four sense inputs at that moment (R81, R94), whether the range line's
busy indication is up then, a dominant level having been on the line within the last 2 bit times (R133, R143), and the order in which
the blocks take the event, with the hand-overs that come among them (log 1, log 13; a taking of `allTakings` left out is taken after those
named, in that list's order). -/
structure EventInputs where
  sense : Vector Bool 4
  lineBusy : Bool
  order : List Taking
  deriving DecidableEq, Repr

/-- Every taking that belongs to every event once, in the order used for those the sender does not name (log 1, DESIGN CHOICE). -/
def allTakings : List Taking :=
  [.listen] ++ allStations.map .silence ++ [.dwell, .swap] ++ allChannels.map .result ++ allChannels.map .sample
    ++ allChannels.map .relay ++ allChannels.map .flame ++ allChannels.map .count ++ [.presence, .plan, .select]

/-- A character as the Line Receiver samples it: its eight data bits and whether its stop bit was dominant (R132). -/
structure LineChar where
  byte : Byte
  framingError : Bool
  deriving DecidableEq, Repr

/-- A moment of a half-cycle on the spark-busy line (R101): how many bit times after the half-cycle event it comes, and whether
another node drives the line then. -/
structure StartPoint where
  bits : Nat
  busy : Bool
  deriving DecidableEq, Repr

/-- A moment of a half-cycle on the range line (R142, R143): how many bit times after the half-cycle event it comes, and whether
the line has been quiet without interruption since then. -/
structure DeferEnd where
  bits : Nat
  quiet : Bool
  deriving DecidableEq, Repr

end Sys2Proof
end

