-- ==== Sys2Proof/Syntax.lean ====
section
/-!
DEFINITION. Syntax.lean: the commands, one constructor for each row of spec/opcode_table.json. The table gives no operand;
an operand here is what the row's event brings from outside the node (a time, a level, characters) or the block it happens
at (a channel, a station).
-/

namespace Sys2Proof

/-- A command to the node: an arrival on the line, on a pin or at the supply, or an event of the node's own time base. -/
inductive Instr where
  /-- COLD_RESET (R172): the supply has risen to `supply` mV; `halt` is the halt input's level at the end of the reset (R33). -/
  | coldReset (supply : Nat) (halt : Bool)
  /-- SUPPLY_LOW (R176): the supply has fallen to `supply` mV. -/
  | supplyLow (supply : Nat)
  /-- OPTION_READ_COMPLETE (R168): at time `t` the read ends with these bytes, byte 0 first. -/
  | optionReadComplete (t : Nat) (block : List Byte)
  /-- CROSSING (R1): the zero-cross level changes at time `t`; `inp` goes with a half-cycle event made there. -/
  | crossing (t : Nat) (inp : EventInputs)
  /-- LOCK (R5): the run length has reached 16 at the crossing just taken. -/
  | lock
  /-- BAD_RUN_LOST (R8): the bad run has reached 3 at the crossing just taken. -/
  | badRunLost
  /-- LOCK_TIMEOUT (R7): one and a half nominal periods have passed since the reference crossing. -/
  | lockTimeout (inp : EventInputs)
  /-- FREE_RUN_DUE (R10): the free-run generator's due time has come. -/
  | freeRunDue (inp : EventInputs)
  /-- PLAN_COMPUTATION_COMPLETE (R65). -/
  | planComputationComplete
  /-- SECOND_COMPLETE (R36) at one channel's Zone Program Unit. -/
  | secondComplete (c : Channel)
  /-- STAGE_EXPIRY (R37) at one channel's Zone Program Unit. -/
  | stageExpiry (c : Channel)
  /-- FLAME_DEBOUNCE_PRESENT (R94) at one channel's Gas Sequencer. -/
  | flameDebouncePresent (c : Channel)
  /-- FLAME_DEBOUNCE_ABSENT (R94, R106) at one channel's Gas Sequencer. -/
  | flameDebounceAbsent (c : Channel)
  /-- IGNITION_WINDOW_END (R104). -/
  | ignitionWindowEnd (c : Channel)
  /-- PURGE_END (R105). -/
  | purgeEnd (c : Channel)
  /-- RELIGHT_WINDOW_END (R107). -/
  | relightWindowEnd (c : Channel)
  /-- HOLD_LIMIT (R100). -/
  | holdLimit
  /-- SPARK_START_POINT (R101): the moment and the spark-busy line's level there. -/
  | sparkStartPoint (p : StartPoint)
  /-- SILENCE_DEPARTURE (R121) of one station. -/
  | silenceDeparture (a : Station)
  /-- LISTEN_COUNT_END (R174). -/
  | listenCountEnd
  /-- PRESENCE_COUNT_DUE (R128). -/
  | presenceCountDue
  /-- FRAME_START (R142, R143): the moment and whether the line has been quiet since the event. -/
  | frameStart (p : DeferEnd)
  /-- FRAME_RECEIVED (R135): these characters, without framing error, complete the frame under assembly. -/
  | frameReceived (chars : List Byte)
  /-- RX_GAP_TIMEOUT (R135): more than 3 character times without a start bit. -/
  | rxGapTimeout
  /-- RESYNC_QUIET (R135): the line has been quiet for 3 character times. -/
  | resyncQuiet
  /-- TRANSMIT_ABORT (R144): the character received while sending, which differs from the one sent. -/
  | transmitAbort (ch : LineChar)
  /-- PRESENCE delivered (R119). -/
  | presence
  /-- CLAIM delivered (R49). -/
  | claim
  /-- RELEASE delivered (R50). -/
  | release
  /-- SPARK delivered (R97). -/
  | spark
  /-- SPARK-FREE delivered (R97). -/
  | sparkFree
  /-- PROGRAM delivered (R25). -/
  | program
  /-- START delivered (R29). -/
  | start
  /-- HOLD delivered (R30). -/
  | hold
  /-- RESUME delivered (R31). -/
  | resume
  /-- STOP delivered (R32). -/
  | stop
  /-- HALT-ALL delivered (R33, R156). -/
  | haltAll
  /-- QUERY delivered (R167). -/
  | query
  /-- RESTART delivered at time `t` (R159). -/
  | restart (t : Nat)
  /-- STATE delivered (R149). -/
  | state
  /-- COUNTS delivered (R149). -/
  | counts
  /-- HALT_ASSERTION (R33). -/
  | haltAssertion
  /-- HALT_INPUT_RELEASE (R33). -/
  | haltInputRelease
  /-- ELEMENT_HANDOVER (R77): the Element Driver takes the oldest level handed to it. -/
  | elementHandover (c : Channel)
  /-- GAS_HANDOVER (R102): the Gas Sequencer takes the oldest level handed to it. -/
  | gasHandover (c : Channel)
  /-- OPENER (R135): a character C3h without framing error. -/
  | opener
  /-- FRAMING_ERROR (R135): a character whose stop bit is sampled dominant, with these data bits. -/
  | framingError (byte : Byte)
  deriving DecidableEq, Repr

end Sys2Proof
end

