-- ==== Sys2Proof/Decode.lean ====
section
/-!
DEFINITION. Decode.lean: the commands a word spells by the bits of spec/opcode_table.json. The table gives no row any bits
(every row's "fields" is empty and none has "fixed"), so no word spells a command. Frames on the line are decoded by the
Line Receiver and the notices' layouts (Machine/Line.lean, Machine/Operands.lean).
-/

namespace Sys2Proof

/-- The command a word spells: none, for every word (the table gives its rows no bits). -/
def decodeTableWord (_nbits _w : Nat) : Option Instr := none

end Sys2Proof
end

