-- ==== Sys2Proof/Machine/State.lean ====
section
/-!
DEFINITION. Machine/State.lean: everything the spec gives one ZC40 node, grouped by the block that owns it
(00_scope.md section 2.1), the commands waiting for it, and the values after a cold reset.
-/

namespace Sys2Proof.Machine

/-! ## Half-Cycle Time Base (01_half_cycle_time_base.md section 1.1) -/

/-- The lock state of the time base. -/
inductive LockState where
  | seek | lock50 | lock60 | lost
  deriving DecidableEq, Repr

/-- A mains band: 50 Hz or 60 Hz. -/
inductive Band where
  | f50 | f60
  deriving DecidableEq, Repr

/-- The free-run generator (R10): stopped, or running with its nominal period and next due time. -/
inductive FreeRun where
  | stopped
  | running (period due : Nat)
  deriving DecidableEq, Repr

/-- State of the Half-Cycle Time Base; times are in units of Config.unitsPerMs (log 4). -/
structure TimeBase where
  lock : LockState
  band : Option Band
  reference : Option Nat
  runBand : Option Band
  runLength : Nat
  badRun : Nat
  freeRun : FreeRun
  lastEvent : Option Nat
  phase : Nat
  tickRate : Nat
  /-- the phase that the last half-cycle event set, adoptions since left out (R142) -/
  eventPhase : Nat
  /-- the tick rate handed with the last half-cycle event (R12, R95) -/
  eventRate : Nat
  /-- the internal oscillator's time at the latest stamped moment (R1, R9) -/
  now : Nat
  deriving DecidableEq, Repr

/-- The values of R19; the phase and the rate of no event yet are those of the reset (log 7). -/
def TimeBase.reset : TimeBase :=
  { lock := .seek, band := none, reference := none, runBand := none, runLength := 0, badRun := 0, freeRun := .stopped,
    lastEvent := none, phase := 0, tickRate := 100, eventPhase := 0, eventRate := 100, now := 0 }

/-! ## Zone Program Units (02_zone_programs_and_stage_timers.md) -/

/-- Program states (R20). -/
inductive ProgramState where
  | empty | ready | running | held | ended
  deriving DecidableEq, Repr

/-- What a stage's time counts (R21). -/
inductive CountBasis where
  | wall | heat
  deriving DecidableEq, Repr

/-- What follows when a stage's time is up (R21). -/
inductive EndAction where
  | next | off | again | keep
  deriving DecidableEq, Repr

/-- Why a program last ended by a fault (R20). -/
inductive FaultCode where
  | none | ignitionLockout | flameLossLockout
  deriving DecidableEq, Repr

/-- The four values of a defined stage (R21). -/
structure Stage where
  level : Nat
  duration : Nat
  basis : CountBasis
  action : EndAction
  deriving DecidableEq, Repr

/-- The program record of one channel (R20). `none` in `stages` is an undefined stage. An UNUSED channel uses `refused` and
`refusalMark` alone. -/
structure Program where
  state : ProgramState
  stageCount : Nat
  stages : Vector (Option Stage) 6
  repeatLimit : Nat
  index : Nat
  repeatsDone : Nat
  elapsed : Nat
  subSecond : Nat
  alert : Bool
  refused : Bool
  refusalMark : BitVec 8
  fault : FaultCode
  deriving DecidableEq, Repr

/-- The values after a reset (R20, R163). -/
def Program.reset : Program :=
  { state := .empty, stageCount := 1, stages := #v[none, none, none, none, none, none], repeatLimit := 0, index := 0,
    repeatsDone := 0, elapsed := 0, subSecond := 0, alert := false, refused := false, refusalMark := 0, fault := .none }

/-! ## Load Plan (03_the_claim_table.md, 04_burst_placement.md) -/

/-- A claim key (R45): the node that owns the channel, and the channel. -/
structure Key where
  station : Fin 8
  channel : Channel
  deriving DecidableEq, Repr

/-- An entry of the claim table (R45). -/
structure ClaimEntry where
  key : Key
  current : Nat
  slots : Nat
  cls : Nat
  placedLast : Bool
  deriving DecidableEq, Repr

/-- A placement record (R60); the entry is placed in the phases of `slots`. -/
structure Placement where
  key : Key
  placed : Bool
  slots : List Nat
  deriving DecidableEq, Repr

/-- State of the Load Plan (R45, R56, R60, R61). `planning` holds the table and the budget that a computation in flight
reads. -/
structure LoadPlan where
  table : List ClaimEntry
  budget : Nat
  current : List Placement
  next : List Placement
  computed : Bool
  planning : Option (List ClaimEntry × Nat)
  deriving DecidableEq, Repr

/-- The values after a reset (R45, R60, R74); the effective budget is set when the options pass (R56, log 7). -/
def LoadPlan.reset : LoadPlan :=
  { table := [], budget := 0, current := [], next := [], computed := false, planning := none }

/-! ## Element Drivers (05_element_channels.md, R76) -/

/-- Heat states of an element channel. -/
inductive ElementHeat where
  | off | satisfied | claiming | admitted | shed
  deriving DecidableEq, Repr

/-- The claim content of an element channel (R78). -/
structure ClaimContent where
  current : Nat
  slots : Nat
  cls : Nat
  deriving DecidableEq, Repr

/-- State of one Element Driver (R76); `relay` is true when closed, `demand` when the last sample was active. -/
structure ElementDriver where
  heat : ElementHeat
  level : Nat
  claim : Option ClaimContent
  demand : Bool
  relay : Bool
  deriving DecidableEq, Repr

/-- The values of R76. -/
def ElementDriver.reset : ElementDriver :=
  { heat := .off, level := 0, claim := none, demand := true, relay := false }

/-! ## Gas Sequencers and Spark Arbiter (06_gas_channels_and_spark_sharing.md) -/

/-- Heat states of a gas channel (R92). -/
inductive GasHeat where
  | off | waitSpark | ignite | proven | relightWait | relightSpark | purge | lockout
  deriving DecidableEq, Repr

/-- The kinds of window a sequencer counts down (R92). -/
inductive Window where
  | ignition | purge | relight
  deriving DecidableEq, Repr

/-- A running countdown: its kind and the half-cycles left (R92). -/
structure Countdown where
  window : Window
  left : Nat
  deriving DecidableEq, Repr

/-- State of one Gas Sequencer (R92); `flame` is true when the debounced flame is present, `valve` when open, `step` the valve step,
`latched` the code that the shared step lines last latched for the channel (R93, R171, log 32). -/
structure GasSequencer where
  heat : GasHeat
  level : Nat
  attempts : Nat
  flame : Bool
  run : Nat
  countdown : Option Countdown
  spark : Bool
  stray : Bool
  valve : Bool
  step : Nat
  latched : Nat
  deriving DecidableEq, Repr

/-- The values of R92. -/
def GasSequencer.reset : GasSequencer :=
  { heat := .off, level := 0, attempts := 0, flame := false, run := 0, countdown := none, spark := false, stray := false,
    valve := false, step := 1, latched := 1 }

/-- State of the Spark Arbiter (R96, R97, R100). -/
structure SparkArbiter where
  queue : List Key
  dwell : Nat
  freeOutstanding : Vector Bool 4
  deriving DecidableEq, Repr

/-- The values after a reset (R92, R96, R100). -/
def SparkArbiter.reset : SparkArbiter :=
  { queue := [], dwell := 0, freeOutstanding := #v[false, false, false, false] }

/-! ## Peer Table (07_peers_and_presence.md) -/

/-- One peer record (R118); the station type follows from the address and is not stored. -/
structure PeerRecord where
  present : Bool
  countdown : Nat
  budget : Option Nat
  bCode : Option Nat
  interval : Option Nat
  deriving DecidableEq, Repr

/-- The values of R118. -/
def PeerRecord.reset : PeerRecord :=
  { present := false, countdown := 0, budget := none, bCode := none, interval := none }

/-- State of the Peer Table (R118, R120, R128). -/
structure PeerTable where
  records : Vector PeerRecord 16
  budgetDiffers : Bool
  bMismatch : Bool
  phaseSource : Option Station
  presenceCount : Nat
  deriving DecidableEq, Repr

/-- The values of R118. -/
def PeerTable.reset : PeerTable :=
  { records := Vector.replicate 16 PeerRecord.reset, budgetDiffers := false, bMismatch := false, phaseSource := none,
    presenceCount := 0 }

/-! ## Range line (08_the_range_line.md) and notices (09_notices.md) -/

/-- The kinds of notice (R148). -/
inductive NoticeKind where
  | presence | claim | release | spark | sparkFree | program | start | hold | resume | stop | haltAll | state | query
  | counts | restart
  deriving DecidableEq, Repr

/-- A frame in the receive FIFO (R138). -/
structure RxFrame where
  source : Station
  kind : NoticeKind
  body : List Byte
  own : Bool
  openerPhase : Nat
  deriving DecidableEq, Repr

/-- The three assembly states of the Line Receiver (R135). -/
inductive ReceiverState where
  | hunt | frame | resync
  deriving DecidableEq, Repr

/-- State of the Line Receiver (R133, R135): the characters taken since the opener, in line order, its opener phase, the
line-busy indication, and what R143's quiet test remembers since the last half-cycle event: whether a character has been taken, and
whether the indication is known to have been busy (log 14). -/
structure LineReceiver where
  state : ReceiverState
  taken : List Byte
  openerPhase : Nat
  lineBusy : Bool
  heard : Bool
  busySince : Bool
  deriving DecidableEq, Repr

/-- The values after a reset (R133, R135). -/
def LineReceiver.reset : LineReceiver :=
  { state := .hunt, taken := [], openerPhase := 0, lineBusy := false, heard := false, busySince := false }

/-- The receive FIFO and the Dispatcher's pause indication (R138, R139). -/
structure Dispatcher where
  fifo : List RxFrame
  paused : Bool
  deriving DecidableEq, Repr

/-- The values after a reset (R138, R139). -/
def Dispatcher.reset : Dispatcher := { fifo := [], paused := false }

/-- A pending flag with its generation mark (R140). -/
structure Flag where
  isSet : Bool
  mark : BitVec 8
  deriving DecidableEq, Repr

/-- The flags of one per-channel kind, with the kind's rotation pointer (R140). -/
structure ChannelFlags where
  flags : Vector Flag 4
  pointer : Channel
  deriving DecidableEq, Repr

/-- The per-channel kinds of request (R140). -/
inductive ChannelRequest where
  | claim | release | spark | sparkFree | state
  deriving DecidableEq, Repr

/-- What a pending flag asks for (R140). -/
inductive Request where
  | haltAll | presence | counts
  | ofChannel (k : ChannelRequest) (c : Channel)
  deriving DecidableEq, Repr

/-- The eight diagnostic counters, in body order (R164). -/
structure Counters where
  checkErrors : Nat
  collisions : Nat
  fifoOverflows : Nat
  phaseAdjusts : Nat
  sheds : Nat
  ignitionFails : Nat
  flameLosses : Nat
  sparkConflicts : Nat
  deriving DecidableEq, Repr

/-- The values after a cold reset (R164). -/
def Counters.reset : Counters :=
  { checkErrors := 0, collisions := 0, fifoOverflows := 0, phaseAdjusts := 0, sheds := 0, ignitionFails := 0,
    flameLosses := 0, sparkConflicts := 0 }

/-- A selected notice (R141): its request, the flag's generation mark at the selection, the frame's characters from the opener
on, and what its owner needs at the success: the refused flag and the refusal mark of a STATE (R163), the counters of a
COUNTS (R166). -/
structure Selection where
  request : Request
  mark : BitVec 8
  frame : List Byte
  refusedShown : Bool
  refusalMark : BitVec 8
  counters : Counters
  deriving DecidableEq, Repr

/-- State of the Line Transmitter (R140, R141, R143) and of the echo comparator (R136): `sent` is the number of characters of
the own frame compared equal so far, none while the node sends nothing. -/
structure Transmitter where
  halt : Flag
  presence : Flag
  counts : Flag
  claim : ChannelFlags
  release : ChannelFlags
  spark : ChannelFlags
  sparkFree : ChannelFlags
  state : ChannelFlags
  selection : Option Selection
  sent : Option Nat
  attempted : Bool
  deriving DecidableEq, Repr

/-- A clear flag with mark 0 (R140). -/
def Flag.reset : Flag := { isSet := false, mark := 0 }

/-- Clear flags and the rotation pointer at channel 3 (R140). -/
def ChannelFlags.reset : ChannelFlags :=
  { flags := #v[Flag.reset, Flag.reset, Flag.reset, Flag.reset], pointer := 3 }

/-- The values after a reset (R140). -/
def Transmitter.reset : Transmitter :=
  { halt := Flag.reset, presence := Flag.reset, counts := Flag.reset, claim := ChannelFlags.reset,
    release := ChannelFlags.reset, spark := ChannelFlags.reset, sparkFree := ChannelFlags.reset,
    state := ChannelFlags.reset, selection := none, sent := none, attempted := false }

/-! ## Option Loader and Supply Monitor (11_options_start_up_and_supply.md) -/

/-- What a channel is (section 11.2). -/
inductive ChannelKind where
  | unused | element | gas
  deriving DecidableEq, Repr

/-- The option values of one channel (section 11.2, bytes 8..15). -/
structure ChannelOptions where
  kind : ChannelKind
  cls : Nat
  demandUsed : Bool
  current : Nat
  deriving DecidableEq, Repr

/-- The option values (section 11.2). -/
structure Options where
  address : Fin 8
  interval : Nat
  bCode : Nat
  budget : Nat
  ignitionSeconds : Nat
  purgeSeconds : Nat
  relightSeconds : Nat
  attempts : Nat
  supplyCode : Nat
  ignitionStep : Nat
  channels : Vector ChannelOptions 4
  deriving DecidableEq, Repr

/-- The options of an UNUSED channel, and of every channel before the option read has passed (log 7, DESIGN CHOICE). -/
def ChannelOptions.reset : ChannelOptions := { kind := .unused, cls := 0, demandUsed := false, current := 0 }

/-- The option values before the option read has passed: zero, every channel UNUSED (log 7, DESIGN CHOICE, unsafe). -/
def Options.reset : Options :=
  { address := 0, interval := 0, bCode := 0, budget := 0, ignitionSeconds := 0, purgeSeconds := 0, relightSeconds := 0,
    attempts := 0, supplyCode := 0, ignitionStep := 0,
    channels := #v[ChannelOptions.reset, ChannelOptions.reset, ChannelOptions.reset, ChannelOptions.reset] }

/-- Node states (R171). -/
inductive NodeState where
  | startUp | listen | run | configFault
  deriving DecidableEq, Repr

/-- State of the Option Loader and Supply Monitor (section 11.1, R168, R176). -/
structure OptionLoader where
  node : NodeState
  /-- the supply-low hold of R176 -/
  held : Bool
  /-- the option read of R168 is in flight -/
  reading : Bool
  options : Options
  listenCount : Nat
  supplyCode : Nat
  deriving DecidableEq, Repr

/-- The values after a cold reset (section 11.1, R172). -/
def OptionLoader.reset : OptionLoader :=
  { node := .startUp, held := false, reading := true, options := Options.reset, listenCount := 0, supplyCode := 0 }

/-! ## Pins and the half-cycle event being taken -/

/-- The input pins (section 11.9), as the outside last set them; `sparkBusy` is other nodes' drive of the spark-busy line. -/
structure Pins where
  zeroCross : Bool
  halt : Bool
  sense : Vector Bool 4
  sparkBusy : Bool
  deriving DecidableEq, Repr

/-- The levels at State.reset (log 7, DESIGN CHOICE: they come from outside). -/
def Pins.reset : Pins :=
  { zeroCross := false, halt := false, sense := #v[false, false, false, false], sparkBusy := false }

/-- A step of the table that has come due inside a crossing or a half-cycle event and is to be carried out now (log 2). -/
inductive Due where
  | lock
  | badRunLost
  | secondComplete (c : Channel)
  | stageExpiry (c : Channel)
  | flamePresent (c : Channel)
  | flameAbsent (c : Channel)
  | ignitionEnd (c : Channel)
  | purgeEnd (c : Channel)
  | relightEnd (c : Channel)
  | holdLimit
  | departure (a : Station)
  | listenEnd
  | presenceDue
  deriving DecidableEq, Repr

/-- The placement result that the map swap hands an own ELEMENT channel (R68, R84): ADMITTED, SHED, or the heat state as it was. -/
inductive SwapResult where
  | admitted | shed | stays
  deriving DecidableEq, Repr

/-- The half-cycle event being taken (log 1, log 2): the sender's order, the takings still to come, the step that is due,
whether this burst start's swap has been taken, the placement results on their way to the drivers, and whether the
half-cycle's spark start point is still to come (R101). -/
structure EventWork where
  order : List Taking
  untaken : List Taking
  due : Option Due
  swapped : Bool
  results : Vector (Option SwapResult) 4
  startPoint : Bool
  deriving DecidableEq, Repr

/-- No event under way. -/
def EventWork.reset : EventWork :=
  { order := [], untaken := [], due := none, swapped := false, results := #v[none, none, none, none], startPoint := false }

/-! ## The whole node -/

/-- The node: the state of every block, and the commands waiting for it, first in, first out. -/
structure State where
  base : TimeBase
  programs : Vector Program 4
  handovers : Vector (List Nat) 4
  elements : Vector ElementDriver 4
  gas : Vector GasSequencer 4
  plan : LoadPlan
  arbiter : SparkArbiter
  peers : PeerTable
  receiver : LineReceiver
  dispatcher : Dispatcher
  tx : Transmitter
  counters : Counters
  loader : OptionLoader
  pins : Pins
  event : EventWork
  pending : List Instr
  deriving DecidableEq, Repr

/-- The node right after a cold reset (R172): every block at its reset value, START-UP, the option read in flight, no command
waiting. -/
def State.reset : State :=
  { base := TimeBase.reset
    programs := #v[Program.reset, Program.reset, Program.reset, Program.reset]
    handovers := #v[[], [], [], []]
    elements := #v[ElementDriver.reset, ElementDriver.reset, ElementDriver.reset, ElementDriver.reset]
    gas := #v[GasSequencer.reset, GasSequencer.reset, GasSequencer.reset, GasSequencer.reset]
    plan := LoadPlan.reset
    arbiter := SparkArbiter.reset
    peers := PeerTable.reset
    receiver := LineReceiver.reset
    dispatcher := Dispatcher.reset
    tx := Transmitter.reset
    counters := Counters.reset
    loader := OptionLoader.reset
    pins := Pins.reset
    event := EventWork.reset
    pending := [] }

/-! ### Updates of one block -/

def State.setBase (s : State) (x : TimeBase) : State := { s with base := x }
def State.setProgram (s : State) (c : Channel) (x : Program) : State := { s with programs := s.programs.set c x }
def State.setHandovers (s : State) (c : Channel) (x : List Nat) : State := { s with handovers := s.handovers.set c x }
def State.setElement (s : State) (c : Channel) (x : ElementDriver) : State := { s with elements := s.elements.set c x }
def State.setGas (s : State) (c : Channel) (x : GasSequencer) : State := { s with gas := s.gas.set c x }
def State.setPlan (s : State) (x : LoadPlan) : State := { s with plan := x }
def State.setArbiter (s : State) (x : SparkArbiter) : State := { s with arbiter := x }
def State.setPeers (s : State) (x : PeerTable) : State := { s with peers := x }
def State.setReceiver (s : State) (x : LineReceiver) : State := { s with receiver := x }
def State.setDispatcher (s : State) (x : Dispatcher) : State := { s with dispatcher := x }
def State.setTx (s : State) (x : Transmitter) : State := { s with tx := x }
def State.setCounters (s : State) (x : Counters) : State := { s with counters := x }
def State.setLoader (s : State) (x : OptionLoader) : State := { s with loader := x }
def State.setPins (s : State) (x : Pins) : State := { s with pins := x }
def State.setEvent (s : State) (x : EventWork) : State := { s with event := x }
def State.setPending (s : State) (x : List Instr) : State := { s with pending := x }

/-- The reasons a command stops the machine with a fault: none. CONFIG-FAULT (R175) and the supply-low hold (R176) are states
of the node that a cold reset ends, and every command has a next state. -/
inductive Fault where
  deriving DecidableEq, Repr

/-- The reasons the model gives a command no meaning. -/
inductive Refusal where
  /-- The command of this mnemonic has no meaning in the model. Raised by an arm of `exec` only, and by none now; safe. -/
  | notModelled (mnemonic : String)
  deriving DecidableEq, Repr

end Sys2Proof.Machine
end

