-- ==== Sys2Proof/Machine/Flags.lean ====
section
/-!
DEFINITION. Machine/Flags.lean: the Line Transmitter's pending flags with their generation marks (R140, R145), and the order
in which a selection serves them (R141).
-/

namespace Sys2Proof.Machine

/-- The flags and the pointer of one per-channel kind (R140). -/
def channelFlags (tx : Transmitter) : ChannelRequest → ChannelFlags
  | .claim => tx.claim
  | .release => tx.release
  | .spark => tx.spark
  | .sparkFree => tx.sparkFree
  | .state => tx.state

/-- Replace the flags and the pointer of one per-channel kind. -/
def setChannelFlags (tx : Transmitter) (k : ChannelRequest) (x : ChannelFlags) : Transmitter :=
  match k with
  | .claim => { tx with claim := x }
  | .release => { tx with release := x }
  | .spark => { tx with spark := x }
  | .sparkFree => { tx with sparkFree := x }
  | .state => { tx with state := x }

/-- The flag of a request (R140). -/
def flagOf (tx : Transmitter) : Request → Flag
  | .haltAll => tx.halt
  | .presence => tx.presence
  | .counts => tx.counts
  | .ofChannel k c => (channelFlags tx k).flags[c]

/-- Replace the flag of a request. -/
def setFlagOf (tx : Transmitter) (r : Request) (f : Flag) : Transmitter :=
  match r with
  | .haltAll => { tx with halt := f }
  | .presence => { tx with presence := f }
  | .counts => { tx with counts := f }
  | .ofChannel k c => setChannelFlags tx k { channelFlags tx k with flags := (channelFlags tx k).flags.set c f }

/-- A setting of a flag: it is set, and its mark goes up by 1, wrapping from 255 to 0, also where it was set already (R140). -/
def raised (f : Flag) : Flag := { isSet := true, mark := f.mark + 1 }

/-- A direct clearing of a flag leaves its mark (R140). -/
def lowered (f : Flag) : Flag := { f with isSet := false }

/-- Set the pending flag of a request (R140). -/
def raiseFlag (r : Request) (s : State) : State := s.setTx (setFlagOf s.tx r (raised (flagOf s.tx r)))

/-- Clear the pending flag of a request directly (R140). -/
def lowerFlag (r : Request) (s : State) : State := s.setTx (setFlagOf s.tx r (lowered (flagOf s.tx r)))

/-- Set claim-pending, which clears release-pending of the channel (R83, R140). -/
def raiseClaim (c : Channel) (s : State) : State :=
  lowerFlag (.ofChannel .release c) (raiseFlag (.ofChannel .claim c) s)

/-- Set release-pending, which clears claim-pending of the channel (R83, R140). -/
def raiseRelease (c : Channel) (s : State) : State :=
  lowerFlag (.ofChannel .claim c) (raiseFlag (.ofChannel .release c) s)

/-- Set state-pending (R161). -/
def raiseState (c : Channel) (s : State) : State := raiseFlag (.ofChannel .state c) s

/-- Set spark-pending; it does not touch spark-free-pending (R113, R140). -/
def raiseSpark (c : Channel) (s : State) : State := raiseFlag (.ofChannel .spark c) s

/-- Set spark-free-pending, and with it the channel's free-outstanding indication (R97). -/
def raiseSparkFree (c : Channel) (s : State) : State :=
  let t := raiseFlag (.ofChannel .sparkFree c) s
  t.setArbiter { t.arbiter with freeOutstanding := t.arbiter.freeOutstanding.set c true }

/-- The channel served of a per-channel kind: the first, counting upward from the one after the pointer and wrapping from 3 to
0, whose flag is set (R141). -/
def servedChannel (x : ChannelFlags) : Option Channel :=
  [x.pointer + 1, x.pointer + 2, x.pointer + 3, x.pointer].find? fun c => x.flags[c].isSet

/-- The request of a per-channel kind, where a flag of it is set (R141). -/
def servedRequest (tx : Transmitter) (k : ChannelRequest) : Option Request :=
  (servedChannel (channelFlags tx k)).map (.ofChannel k)

/-- The request of a node-wide flag, where it is set (R141). -/
def nodeRequest (r : Request) (f : Flag) : Option Request := if f.isSet then some r else none

/-- The request selected, by kind priority and then by rotation (R141): HALT-ALL, SPARK-FREE, RELEASE, SPARK, CLAIM, PRESENCE,
STATE, COUNTS. -/
def chooseRequest (tx : Transmitter) : Option Request :=
  (nodeRequest .haltAll tx.halt).or <| (servedRequest tx .sparkFree).or <| (servedRequest tx .release).or <|
  (servedRequest tx .spark).or <| (servedRequest tx .claim).or <| (nodeRequest .presence tx.presence).or <|
  (servedRequest tx .state).or <| nodeRequest .counts tx.counts

/-- The success's effect on the flag and the pointer (R145): the flag is cleared where its mark is the one recorded, and the
pointer of a per-channel kind becomes the channel sent. -/
def settleFlag (r : Request) (mark : BitVec 8) (tx : Transmitter) : Transmitter :=
  let tx' := if (flagOf tx r).mark = mark then setFlagOf tx r (lowered (flagOf tx r)) else tx
  match r with
  | .ofChannel k c => setChannelFlags tx' k { channelFlags tx' k with pointer := c }
  | .haltAll | .presence | .counts => tx'

end Sys2Proof.Machine
end

