-- ==== Sys2Proof/Machine/Operands.lean ====
section
/-!
DEFINITION. Machine/Operands.lean: the layouts of section 9.6 in both directions: what a notice's body characters say, and the
characters of the node's own notices; the option block of section 11.2.
-/

namespace Sys2Proof.Machine

/-! ## Characters and fields -/

/-- The character that holds a number (its value modulo 256). -/
def byteOf (n : Nat) : Byte := BitVec.ofNat 8 n

/-- Bits 7..4 of a character. -/
def highHalf (b : Byte) : Nat := b.toNat / 16

/-- Bits 3..0 of a character. -/
def lowHalf (b : Byte) : Nat := b.toNat % 16

/-- One bit of a character, bit 0 the least significant. -/
def bitOf (b : Byte) (i : Nat) : Bool := b.getLsbD i

/-- A number sent in two characters, most significant first (section 9.6). -/
def twoBytes (high low : Byte) : Nat := high.toNat * 256 + low.toNat

/-- Body character `i`; a body that reaches the FIFO always has it (R148). -/
def charAt (body : List Byte) (i : Nat) : Byte := body.getD i 0

/-- A flag as a number, for packing bits. -/
def bitVal (b : Bool) (weight : Nat) : Nat := if b then weight else 0

/-- A channel number in a body, where it is one (R49, R50, R97: ignored outside 0..3). -/
def channelOf (n : Nat) : Option Channel := if h : n < 4 then some ⟨n, h⟩ else none

/-- A node address, where the station is one (R51: 8..15 hold no claims). -/
def nodeOf (a : Station) : Option (Fin 8) := if h : a.val < 8 then some ⟨a.val, h⟩ else none

/-- The key formed from a source address and a channel (R49, R97). -/
def keyOf (a : Station) (n : Nat) : Option Key :=
  match nodeOf a, channelOf n with
  | some st, some c => some { station := st, channel := c }
  | _, _ => none

/-! ## Kinds and lengths (R148) -/

/-- The code of a kind (R148). -/
def kindCode : NoticeKind → Nat
  | .presence => 0 | .claim => 1 | .release => 2 | .spark => 3 | .sparkFree => 4 | .program => 5 | .start => 6 | .hold => 7
  | .resume => 8 | .stop => 9 | .haltAll => 10 | .state => 11 | .query => 12 | .counts => 13 | .restart => 14

/-- The kind of a code; 15 names none (R148). -/
def kindOfCode : Nat → Option NoticeKind
  | 0 => some .presence | 1 => some .claim | 2 => some .release | 3 => some .spark | 4 => some .sparkFree
  | 5 => some .program | 6 => some .start | 7 => some .hold | 8 => some .resume | 9 => some .stop | 10 => some .haltAll
  | 11 => some .state | 12 => some .query | 13 => some .counts | 14 => some .restart | _ => none

/-- The fixed body length of a kind (R148); for PRESENCE by the source address. -/
def bodyLength (k : NoticeKind) (source : Nat) : Nat :=
  match k with
  | .presence => if source < 8 then 16 else 0
  | .claim => 3
  | .release | .spark | .sparkFree | .query | .restart => 1
  | .program | .state | .counts => 8
  | .start | .hold | .resume | .stop => 2
  | .haltAll => 0

/-! ## Bodies received -/

/-- What a CLAIM carries (R153). -/
structure ClaimNotice where
  channel : Nat
  cls : Nat
  current : Nat
  slots : Nat
  deriving DecidableEq, Repr

/-- Reading a CLAIM body (section 9.6). -/
def readClaim (body : List Byte) : ClaimNotice :=
  { channel := highHalf (charAt body 0), cls := lowHalf (charAt body 0), current := (charAt body 1).toNat,
    slots := (charAt body 2).toNat }

/-- A channel summary of a PRESENCE (R152): kind code, claim indication and content, spark-queued indication. -/
structure Summary where
  kindField : Nat
  claimed : Bool
  cls : Nat
  queued : Bool
  current : Nat
  slots : Nat
  deriving DecidableEq, Repr

/-- Reading channel `c`'s summary from a PRESENCE body: characters 4 + 3c and the two after it (section 9.6). -/
def readSummary (body : List Byte) (c : Channel) : Summary :=
  let b := charAt body (4 + 3 * c.val)
  { kindField := b.toNat % 4, claimed := bitOf b 2, cls := b.toNat / 16 % 4, queued := bitOf b 6,
    current := (charAt body (5 + 3 * c.val)).toNat, slots := (charAt body (6 + 3 * c.val)).toNat }

/-- The phase a PRESENCE carries (section 9.6). -/
def presencePhase (body : List Byte) : Nat := (charAt body 0).toNat

/-- The P a PRESENCE carries (section 9.6). -/
def presenceInterval (body : List Byte) : Nat := highHalf (charAt body 1)

/-- The B code a PRESENCE carries (section 9.6). -/
def presenceBCode (body : List Byte) : Nat := (charAt body 1).toNat % 4

/-- The option budget a PRESENCE carries (section 9.6). -/
def presenceBudget (body : List Byte) : Nat := (charAt body 3).toNat

/-- The target address, the first character of a targeted notice (R150). -/
def targetOf (body : List Byte) : Nat := (charAt body 0).toNat

/-- What a PROGRAM carries (R154); a basis or an action of no defined code is none. -/
structure ProgramNotice where
  channel : Nat
  index : Nat
  count : Nat
  limit : Nat
  level : Nat
  duration : Nat
  basis : Option CountBasis
  action : Option EndAction
  deriving DecidableEq, Repr

/-- The count basis codes (R154). -/
def basisOfCode : Nat → Option CountBasis
  | 0 => some .wall | 1 => some .heat | _ => none

/-- The end action codes (R154): NEXT, OFF, REPEAT, KEEP. -/
def actionOfCode : Nat → Option EndAction
  | 0 => some .next | 1 => some .off | 2 => some .again | 3 => some .keep | _ => none

/-- Reading a PROGRAM body (R154). -/
def readProgram (body : List Byte) : ProgramNotice :=
  { channel := (charAt body 1).toNat, index := highHalf (charAt body 2), count := lowHalf (charAt body 2),
    limit := (charAt body 3).toNat, level := (charAt body 4).toNat,
    duration := twoBytes (charAt body 5) (charAt body 6), basis := basisOfCode (highHalf (charAt body 7)),
    action := actionOfCode (lowHalf (charAt body 7)) }

/-- Whether a channel mask names a channel: bit c, with bits 7..4 ignored (R155). -/
def maskNames (body : List Byte) (c : Channel) : Bool := bitOf (charAt body 1) c.val

/-! ## Codes of the node's own reports (section 9.6) -/

/-- The code of a program state. -/
def programStateCode : ProgramState → Nat
  | .empty => 0 | .ready => 1 | .running => 2 | .held => 3 | .ended => 4

/-- The code of an element heat state. -/
def elementHeatCode : ElementHeat → Nat
  | .off => 0 | .satisfied => 1 | .claiming => 2 | .admitted => 3 | .shed => 4

/-- The code of a gas heat state. -/
def gasHeatCode : GasHeat → Nat
  | .off => 0 | .waitSpark => 8 | .ignite => 9 | .proven => 10 | .relightWait => 11 | .relightSpark => 12 | .purge => 13
  | .lockout => 14

/-- The code of a fault. -/
def faultCodeOf : FaultCode → Nat
  | .none => 0 | .ignitionLockout => 1 | .flameLossLockout => 2

/-- The code of the mains state in a PRESENCE. -/
def lockStateCode : LockState → Nat
  | .seek => 0 | .lock50 => 1 | .lock60 => 2 | .lost => 3

/-! ## The option block (section 11.2) -/

/-- The kind of a channel's option byte; code 3 is no kind (R169). -/
def channelKindOfCode : Nat → Option ChannelKind
  | 0 => some .unused | 1 => some .element | 2 => some .gas | _ => none

/-- The options of channel `c` (bytes 8 + c and 12 + c); a byte of no kind reads as UNUSED, and the check fails (R169). -/
def readChannelOptions (block : List Byte) (c : Nat) : ChannelOptions :=
  let b := charAt block (8 + c)
  { kind := (channelKindOfCode (b.toNat % 4)).getD .unused, cls := b.toNat / 16 % 4, demandUsed := bitOf b 2,
    current := (charAt block (12 + c)).toNat }

/-- The option values a block holds (section 11.2). -/
def readOptions (block : List Byte) : Options :=
  { address := ⟨(charAt block 0).toNat % 8, Nat.mod_lt _ (by decide)⟩
    interval := highHalf (charAt block 1)
    bCode := (charAt block 1).toNat % 4
    budget := (charAt block 2).toNat
    ignitionSeconds := (charAt block 3).toNat
    purgeSeconds := (charAt block 4).toNat
    relightSeconds := (charAt block 5).toNat
    attempts := highHalf (charAt block 6)
    supplyCode := (charAt block 6).toNat % 4
    ignitionStep := (charAt block 7).toNat
    channels := #v[readChannelOptions block 0, readChannelOptions block 1, readChannelOptions block 2,
      readChannelOptions block 3] }

/-- The inclusive range test of the option check. -/
def within (low n high : Nat) : Bool := low ≤ n && n ≤ high

/-- The tests on one channel's options (R169): a kind code of 0..2, and an ELEMENT current of 1..250 within the budget. -/
def channelPasses (block : List Byte) (budget c : Nat) : Bool :=
  let o := readChannelOptions block c
  (channelKindOfCode ((charAt block (8 + c)).toNat % 4)).isSome
    && (o.kind != .element || (within 1 o.current 250 && o.current ≤ budget))

/-- The option check (R169). -/
def blockPasses (block : List Byte) : Bool :=
  let o := readOptions block
  block.length == 17
    && (block.map BitVec.toNat).sum % 256 == 0
    && o.bCode ≤ 2 && within 2 o.interval 8 && within 1 o.budget 250
    && within 2 o.ignitionSeconds 8 && within 2 o.purgeSeconds 15 && within 1 o.relightSeconds 4
    && within 1 o.attempts 3 && within 1 o.ignitionStep 9
    && channelPasses block o.budget 0 && channelPasses block o.budget 1 && channelPasses block o.budget 2
    && channelPasses block o.budget 3

end Sys2Proof.Machine
end

