-- ==== Sys2Proof/Machine/Ops.lean ====
section
/-!
DEFINITION. Machine/Ops.lean: the operations every block shares: the node's state and options as the blocks read them, the
saturating counters, refusals, the hand-over of an effective heat level, and the reports a change asks for.
-/

namespace Sys2Proof.Machine

/-! ## The node as the blocks read it -/

/-- The node is not held and is in LISTEN or RUN: half-cycle events are made and the receiver and the Dispatcher work (R11,
R132, R139, R176). -/
def State.active (s : State) : Bool := !s.loader.held && (s.loader.node == .listen || s.loader.node == .run)

/-- The node is not held and is in RUN. -/
def State.inRun (s : State) : Bool := !s.loader.held && s.loader.node == .run

/-- The time base is LOCK50 or LOCK60. -/
def State.locked (s : State) : Bool := s.base.lock == .lock50 || s.base.lock == .lock60

/-- B, the burst length in half-cycles: 32, 64 or 128 for codes 0, 1, 2 (section 11.2). -/
def State.burst (s : State) : Nat := 32 * 2 ^ s.loader.options.bCode

/-- The kind of an own channel. -/
def State.kind (s : State) (c : Channel) : ChannelKind := s.loader.options.channels[c].kind

/-- An own channel that is ELEMENT or GAS; it has a Zone Program Unit (R20). -/
def State.used (s : State) (c : Channel) : Bool := s.kind c != .unused

/-- The key of an own channel (R45, R96). -/
def State.ownKey (s : State) (c : Channel) : Key := { station := s.loader.options.address, channel := c }

/-- A source address that is the own address. -/
def State.isOwn (s : State) (a : Station) : Bool := a.val == s.loader.options.address.val

/-- The node's spark-enable output and its drive of the spark-busy line: active while an own spark is on, in RUN (R93). -/
def State.sparkEnable (s : State) : Bool := s.inRun && allChannels.any fun c => s.gas[c].spark

/-- The node's line driver is in use (R132, R143). -/
def State.lineDriven (s : State) : Bool := s.tx.sent.isSome

/-- Output A of a channel: the relay of an ELEMENT, the valve of a GAS channel, off for UNUSED (R170, section 11.9). -/
def State.outputA (s : State) (c : Channel) : Bool :=
  match s.kind c with
  | .unused => false
  | .element => s.elements[c].relay
  | .gas => s.gas[c].valve

/-! ## Counters (R164, R165) -/

/-- An increase adds 1 below 255 and leaves 255 (R164). -/
def saturate (n : Nat) : Nat := if n < 255 then n + 1 else n

def countCheckError (s : State) : State :=
  s.setCounters { s.counters with checkErrors := saturate s.counters.checkErrors }
def countCollision (s : State) : State :=
  s.setCounters { s.counters with collisions := saturate s.counters.collisions }
def countFifoOverflow (s : State) : State :=
  s.setCounters { s.counters with fifoOverflows := saturate s.counters.fifoOverflows }
def countPhaseAdjust (s : State) : State :=
  s.setCounters { s.counters with phaseAdjusts := saturate s.counters.phaseAdjusts }
def countShed (s : State) : State :=
  s.setCounters { s.counters with sheds := saturate s.counters.sheds }
def countIgnitionFail (s : State) : State :=
  s.setCounters { s.counters with ignitionFails := saturate s.counters.ignitionFails }
def countFlameLoss (s : State) : State :=
  s.setCounters { s.counters with flameLosses := saturate s.counters.flameLosses }
def countSparkConflict (s : State) : State :=
  s.setCounters { s.counters with sparkConflicts := saturate s.counters.sparkConflicts }

/-- The reduction at a COUNTS success: each counter less the value its snapshot carried (R166). -/
def reduceCounters (snap : Counters) (x : Counters) : Counters :=
  { checkErrors := x.checkErrors - snap.checkErrors
    collisions := x.collisions - snap.collisions
    fifoOverflows := x.fifoOverflows - snap.fifoOverflows
    phaseAdjusts := x.phaseAdjusts - snap.phaseAdjusts
    sheds := x.sheds - snap.sheds
    ignitionFails := x.ignitionFails - snap.ignitionFails
    flameLosses := x.flameLosses - snap.flameLosses
    sparkConflicts := x.sparkConflicts - snap.sparkConflicts }

/-! ## Program records as other blocks read them -/

/-- The stage being timed, where it is defined (R20, R21). -/
def currentStage (p : Program) : Option Stage := (p.stages[p.index]?).join

/-- The effective heat level (R22): the current stage's level while RUNNING, else 0. -/
def effectiveLevel (p : Program) : Nat :=
  match p.state, currentStage p with
  | .running, some st => st.level
  | _, _ => 0

/-- The remaining time a STATE report shows (R43). -/
def remainingTime (p : Program) : Nat :=
  match p.state, currentStage p with
  | .running, some st => if st.duration = 0 then 65535 else st.duration - p.elapsed
  | .held, some st => if st.duration = 0 then 65535 else st.duration - p.elapsed
  | _, _ => 0

/-- Hand a level to the channel's driver: it joins the levels on their way there (R22, log 13). -/
def handOver (c : Channel) (level : Nat) (s : State) : State := s.setHandovers c (s.handovers[c] ++ [level])

/-- Change a program record; the effective heat level is handed to the driver where it changes (R22). -/
def updateProgram (c : Channel) (p : Program) (s : State) : State :=
  if effectiveLevel p = effectiveLevel s.programs[c] then s.setProgram c p
  else handOver c (effectiveLevel p) (s.setProgram c p)

/-- A refusal on a channel (R24, R160, R161): the refused flag is set, the refusal mark goes up by 1, and state-pending is
set. -/
def refuse (c : Channel) (s : State) : State :=
  raiseState c (s.setProgram c
    { s.programs[c] with refused := true, refusalMark := s.programs[c].refusalMark + 1 })

/-! ## Reports (R161) -/

/-- The heat-state code of a channel (R157, section 9.6). -/
def heatCode (s : State) (c : Channel) : Nat :=
  match s.kind c with
  | .unused => 15
  | .element => elementHeatCode s.elements[c].heat
  | .gas => gasHeatCode s.gas[c].heat

/-- The stray-flame indication of a channel; clear for an ELEMENT or UNUSED channel (R160). -/
def strayShown (s : State) (c : Channel) : Bool :=
  match s.kind c with
  | .gas => s.gas[c].stray
  | .element | .unused => false

/-- The reported fields of a channel whose change sets state-pending (R161). -/
structure Reported where
  state : ProgramState
  index : Nat
  repeatsDone : Nat
  heat : Nat
  alert : Bool
  stray : Bool
  fault : FaultCode
  deriving DecidableEq, Repr

/-- The reported fields as they stand (R161). -/
def reportedOf (s : State) (c : Channel) : Reported :=
  { state := s.programs[c].state, index := s.programs[c].index, repeatsDone := s.programs[c].repeatsDone,
    heat := heatCode s c, alert := s.programs[c].alert, stray := strayShown s c, fault := s.programs[c].fault }

/-- Set state-pending of channel `c` once, where a reported field of it differs from what it was (R161). -/
def noteChannel (before : State) (s : State) (c : Channel) : State :=
  if reportedOf before c = reportedOf s c then s else raiseState c s

/-- Set state-pending of every channel a reported field of which an event has changed: once for one event (R161, log 16),
however often it changes within the one taking (log 33, DESIGN CHOICE). -/
def noteReports (before after : State) : State := allChannels.foldl (noteChannel before) after

/-- An event at a block, with the reports its changes ask for (R161). -/
def reporting (f : State → State) (s : State) : State := noteReports s (f s)

/-! ## Outputs -/

/-- Open every element relay. -/
def openRelays (s : State) : State := { s with elements := s.elements.map fun e => { e with relay := false } }

/-- Turn every own spark off; heat states, valves and countdowns are kept (R114). -/
def sparksOff (s : State) : State := { s with gas := s.gas.map fun g => { g with spark := false } }

/-- Close every valve; the step and the code latched on the step lines are kept (R171). -/
def closeValves (s : State) : State := { s with gas := s.gas.map fun g => { g with valve := false } }

/-- Every relay, valve and spark output goes off (R171). -/
def outputsOff (s : State) : State := closeValves (sparksOff (openRelays s))

end Sys2Proof.Machine
end

