-- ==== Sys2Proof/Machine/Programs.lean ====
section
/-!
DEFINITION. Machine/Programs.lean: the Zone Program Unit (02_zone_programs_and_stage_timers.md): storing and editing stages,
the program commands, counting, expiry and end actions, the lockout report.
-/

namespace Sys2Proof.Machine

/-! ## Stages -/

/-- The highest level of a channel kind (R21); an UNUSED channel takes none. -/
def maxLevel : ChannelKind → Nat
  | .element => 16
  | .gas => 9
  | .unused => 0

/-- A stage is valid: its level in range for the kind, its duration in 0..65534, not level 0 with basis HEAT (R21). -/
def stageValid (k : ChannelKind) (st : Stage) : Bool :=
  st.level ≤ maxLevel k && st.duration ≤ 65534 && !(st.level == 0 && st.basis == .heat)

/-- The stage a PROGRAM carries, where the notice passes the checks made in every program state (R25). -/
def programStage (k : ChannelKind) (n : ProgramNotice) : Option Stage :=
  match n.basis, n.action with
  | some b, some a =>
    let st : Stage := { level := n.level, duration := n.duration, basis := b, action := a }
    if n.index < n.count && within 1 n.count 6 && n.limit ≤ 15 && stageValid k st then some st else none
  | _, _ => none

/-- One place of the stage records after a PROGRAM: index `i` holds the carried stage, `n` and above are undefined, the rest is
kept (R26, R27). -/
def storedStage (i n : Nat) (st : Stage) (old : Vector (Option Stage) 6) (k : Fin 6) : Option Stage :=
  if n ≤ k.val then none else if k.val = i then some st else old[k]

/-- Store the carried stage, the count and the repeat limit (R26, R27). -/
def storeStage (n : ProgramNotice) (st : Stage) (p : Program) : Program :=
  { p with
    stageCount := n.count
    repeatLimit := n.limit
    stages := #v[storedStage n.index n.count st p.stages 0, storedStage n.index n.count st p.stages 1,
      storedStage n.index n.count st p.stages 2, storedStage n.index n.count st p.stages 3,
      storedStage n.index n.count st p.stages 4, storedStage n.index n.count st p.stages 5] }

/-- A PROGRAM in EMPTY, READY or ENDED that passes R25 (R26): the alert flag and the fault code are left. -/
def setUpProgram (n : ProgramNotice) (st : Stage) (p : Program) : Program :=
  { storeStage n st p with state := .ready, index := 0, repeatsDone := 0, elapsed := 0, subSecond := 0 }

/-! ## End actions (R38 to R41) -/

/-- OFF (R39): ENDED, the alert cleared, elapsed at the duration of the stage that ended. -/
def endOff (st : Stage) (p : Program) : Program := { p with state := .ended, alert := false, elapsed := st.duration }

/-- NEXT (R38): the following stage where there is one below the count and it is defined, else OFF. -/
def endNext (st : Stage) (p : Program) : Program :=
  if p.index + 1 < p.stageCount && (p.stages[p.index + 1]?).join.isSome then
    { p with index := p.index + 1, elapsed := 0, subSecond := 0, alert := false }
  else endOff st p

/-- REPEAT (R40): back to stage 0 while repeats are left, else OFF. -/
def endRepeat (st : Stage) (p : Program) : Program :=
  if p.repeatsDone < p.repeatLimit then
    { p with repeatsDone := p.repeatsDone + 1, index := 0, elapsed := 0, subSecond := 0, alert := false }
  else endOff st p

/-- KEEP (R41): the alert set, elapsed at the duration, state and level as they are. -/
def endKeep (st : Stage) (p : Program) : Program := { p with alert := true, elapsed := st.duration }

/-- The end action of a stage that expires (R37). -/
def carryEnd (st : Stage) (p : Program) : Program :=
  match st.action with
  | .next => endNext st p
  | .off => endOff st p
  | .again => endRepeat st p
  | .keep => endKeep st p

/-! ## Editing a program that is RUNNING or HELD -/

/-- The edit of the stage being timed (R28): the stage expires where its new duration is not 0 and not above elapsed, else it
counts on with the alert cleared. -/
def editCurrent (st : Stage) (p : Program) : Program :=
  if st.duration ≠ 0 ∧ st.duration ≤ p.elapsed then carryEnd st p else { p with alert := false }

/-- A PROGRAM in RUNNING or HELD that passes R25 is stored (R27); none where it is refused. -/
def editProgram (n : ProgramNotice) (st : Stage) (p : Program) : Option Program :=
  if n.count ≤ p.index ∨ n.limit < p.repeatsDone then none else some (storeStage n st p)

/-- The record as a PROGRAM that passes R25 stores it, by program state (R26, R27); none where it is refused. -/
def takeProgram (n : ProgramNotice) (st : Stage) (p : Program) : Option Program :=
  match p.state with
  | .empty | .ready | .ended => some (setUpProgram n st p)
  | .running | .held => editProgram n st p

/-- A PROGRAM that names the stage being timed, in RUNNING or HELD (R28). -/
def editsCurrent (n : ProgramNotice) (p : Program) : Bool :=
  (p.state == .running || p.state == .held) && n.index == p.index

/-- A PROGRAM taken by the own channel it names (R23, R25 to R28). The stage is stored first, and a level that this changes is in force at
once and handed (R22, R28). Where it is the stage being timed, it then counts on or expires; an expiry's end action hands the level it
changes, behind the edit's (log 28, DEDUCED). -/
def programOn (n : ProgramNotice) (c : Channel) (s : State) : State :=
  if !s.used c || !s.inRun then refuse c s
  else
    match programStage (s.kind c) n with
    | none => refuse c s
    | some st =>
      match takeProgram n st s.programs[c] with
      | none => refuse c s
      | some p =>
        let t := updateProgram c p s
        if editsCurrent n p then updateProgram c (editCurrent st p) t else t

/-! ## START, HOLD, RESUME, STOP -/

/-- Every stage below the count is defined (R29). -/
def stagesDefined (p : Program) : Bool := (p.stages.toList.take p.stageCount).all Option.isSome

/-- A channel that is GAS with its Gas Sequencer in LOCKOUT (R29, R32). -/
def lockedOut (c : Channel) (s : State) : Bool := s.kind c == .gas && s.gas[c].heat == .lockout

/-- A START is taken on a used channel in RUN (R29). -/
def startAccepted (c : Channel) (s : State) : Bool :=
  let p := s.programs[c]
  (p.state == .ready || p.state == .ended) && stagesDefined p && !s.pins.halt && !lockedOut c s

/-- The record a START leaves (R29). -/
def startedProgram (p : Program) : Program :=
  { p with state := .running, index := 0, repeatsDone := 0, elapsed := 0, subSecond := 0, alert := false, fault := .none }

/-- START on one named channel (R23, R29). -/
def startOn (c : Channel) (s : State) : State :=
  if !s.used c || !s.inRun then refuse c s
  else if startAccepted c s then updateProgram c (startedProgram s.programs[c]) s
  else refuse c s

/-- HOLD on one named channel (R23, R30): ignored in any program state but RUNNING. -/
def holdOn (c : Channel) (s : State) : State :=
  if !s.used c || !s.inRun then refuse c s
  else if s.programs[c].state = .running then updateProgram c { s.programs[c] with state := .held } s
  else s

/-- RESUME on one named channel (R23, R31): ignored in any program state but HELD. -/
def resumeOn (c : Channel) (s : State) : State :=
  if !s.used c || !s.inRun then refuse c s
  else if s.programs[c].state = .held then updateProgram c { s.programs[c] with state := .running } s
  else s

/-! ## Counting (R34 to R37) -/

/-- The current map's record of a key, where it places it (R60, R71). -/
def placedSlots (map : List Placement) (k : Key) : Option (List Nat) :=
  (map.find? fun r => r.key = k && r.placed).map Placement.slots

/-- The current map places an own channel's key (R71). -/
def placedNow (c : Channel) (s : State) : Bool := (placedSlots s.plan.current (s.ownKey c)).isSome

/-- A channel is delivering heat (R35). -/
def deliversHeat (c : Channel) (s : State) : Bool :=
  match s.kind c with
  | .element => s.elements[c].heat == .admitted && placedNow c s && s.locked && s.inRun
  | .gas => s.gas[c].heat == .proven
  | .unused => false

/-- A half-cycle event is counted by a channel's stage (R34): RUNNING, not kept, not an open-ended stage at 65534, and WALL or
delivering heat. The alert flag is set exactly while a stage is kept (R20, R41). -/
def countsEvent (c : Channel) (s : State) : Bool :=
  let p := s.programs[c]
  match p.state, currentStage p with
  | .running, some st =>
    !p.alert && !(st.duration == 0 && p.elapsed ≥ 65534) && (st.basis == .wall || deliversHeat c s)
  | _, _ => false

/-- Considering a half-cycle event (R34, R36): a counted event adds 1 to the sub-second count, and the second's completion is
due where that reaches the tick rate handed with the event. -/
def takeCount (c : Channel) (s : State) : State :=
  if s.used c && countsEvent c s then
    let n := s.programs[c].subSecond + 1
    let t := s.setProgram c { s.programs[c] with subSecond := n }
    if s.base.eventRate ≤ n then t.setEvent { t.event with due := some (.secondComplete c) } else t
  else s

/-- Elapsed has come to a duration that is not 0: the current stage expires (R37). -/
def expires (p : Program) : Bool :=
  match currentStage p with
  | some st => st.duration != 0 && p.elapsed == st.duration
  | none => false

/-- A second is complete (R36): the sub-second count returns to 0 and elapsed goes up by 1. The stage's expiry is due where
elapsed has come to its duration (R37); else a multiple of 30 seconds sets state-pending, and an expiry that falls on one
sets it once for both (R162). -/
def secondStep (c : Channel) (s : State) : State :=
  let p := { s.programs[c] with subSecond := 0, elapsed := s.programs[c].elapsed + 1 }
  let t := s.setProgram c p
  if expires p then t.setEvent { t.event with due := some (.stageExpiry c) }
  else if p.elapsed % 30 = 0 then raiseState c t
  else t

/-- The current stage's end action (R37). -/
def expiryStep (c : Channel) (s : State) : State :=
  match currentStage s.programs[c] with
  | some st => updateProgram c (carryEnd st s.programs[c]) s
  | none => s

/-! ## Lockout (R42) -/

/-- The record after a lockout report: RUNNING and HELD end with the cause, ENDED takes the cause; in EMPTY and READY the
report does not arise (R42, log 17). -/
def lockedOutProgram (cause : FaultCode) (p : Program) : Program :=
  match p.state with
  | .running | .held => { p with state := .ended, fault := cause, alert := false }
  | .ended => { p with fault := cause }
  | .empty | .ready => p

/-- A Gas Sequencer's report that it has locked out (R42, R109). -/
def lockoutReport (c : Channel) (cause : FaultCode) (s : State) : State :=
  updateProgram c (lockedOutProgram cause s.programs[c]) s

/-- The record a STOP leaves (R32): ENDED with the alert cleared; EMPTY is passed over. -/
def stoppedProgram (p : Program) : Program :=
  match p.state with
  | .empty => p
  | .ready | .running | .held | .ended => { p with state := .ended, alert := false }

end Sys2Proof.Machine
end

