-- ==== Sys2Proof/Machine/LoadPlan.lean ====
section
/-!
DEFINITION. Machine/LoadPlan.lean: the claim table and its order, the effective budget (03_the_claim_table.md), the plan
computation, the slot maps and the swap (04_burst_placement.md).
-/

namespace Sys2Proof.Machine

/-! ## The claim table -/

/-- The table's order (R47): class, then station, then channel, each ascending. -/
def entryBefore (a b : ClaimEntry) : Bool :=
  a.cls < b.cls || (a.cls == b.cls &&
    (a.key.station.val < b.key.station.val || (a.key.station == b.key.station && a.key.channel.val < b.key.channel.val)))

/-- Insert an entry at its place in the order (R47). -/
def insertEntry (e : ClaimEntry) : List ClaimEntry → List ClaimEntry
  | [] => [e]
  | x :: xs => if entryBefore e x then e :: x :: xs else x :: insertEntry e xs

/-- The entry of a key, where present. -/
def findEntry (k : Key) (table : List ClaimEntry) : Option ClaimEntry := table.find? fun e => e.key = k

/-- Remove the entry of a key; the entries after it close up (R50). -/
def removeEntry (k : Key) (table : List ClaimEntry) : List ClaimEntry := table.filter fun e => e.key ≠ k

/-- The placed-last-burst flag of a key's entry; clear with no entry (R68). -/
def entryFlag (k : Key) (table : List ClaimEntry) : Bool := ((findEntry k table).map ClaimEntry.placedLast).getD false

/-- Set a key's entry to a claim content (R49, R52): an absent key is inserted with placed-last-burst clear; a present one keeps
its flag and moves to the place its class gives it. -/
def putEntry (k : Key) (x : ClaimContent) (table : List ClaimEntry) : List ClaimEntry :=
  insertEntry { key := k, current := x.current, slots := x.slots, cls := x.cls, placedLast := entryFlag k table }
    (removeEntry k table)

/-- The ranges of a claim's fields for a receiver of burst length `b` (R49, R52). -/
def claimInRange (b : Nat) (x : ClaimContent) : Bool := x.cls ≤ 3 && within 1 x.current 250 && within 1 x.slots b

/-- Replace the claim table; the slot maps are not touched (R48). -/
def setTable (table : List ClaimEntry) (s : State) : State := s.setPlan { s.plan with table := table }

/-! ## The effective budget -/

/-- The present peer nodes (R118), in address order. -/
def presentNodes (s : State) : List Station :=
  allStations.filter fun a => a.val < 8 && !s.isOwn a && s.peers.records[a].present

/-- The least of the own option budget and the present peer nodes' budgets (R56). -/
def leastBudget (s : State) : Nat :=
  (presentNodes s).foldl (fun m a => min m (s.peers.records[a].budget.getD m)) s.loader.options.budget

/-- The effective budget (R56): 0 while B-mismatch holds. -/
def effectiveBudget (s : State) : Nat := if s.peers.bMismatch then 0 else leastBudget s

/-- The recomputation of R57. -/
def recomputeBudget (s : State) : State := s.setPlan { s.plan with budget := effectiveBudget s }

/-! ## The plan computation (R62, R63) -/

/-- The low `n` binary digits of `k`, in reverse order (R62). -/
def reverseBits : Nat → Nat → Nat
  | 0, _ => 0
  | n + 1, k => (k % 2) * 2 ^ n + reverseBits n (k / 2)

/-- The scan order of a burst of 2^n half-cycles (R62). -/
def scanOrder (n : Nat) : List Nat := (List.range (2 ^ n)).map (reverseBits n)

/-- The candidates an entry accepts (R63): in scan order, while more are needed, those whose running load and the entry's
current stay within the budget. -/
def acceptSlots (budget current : Nat) (loads : List Nat) : Nat → List Nat → List Nat
  | _, [] => []
  | 0, _ => []
  | n + 1, k :: ks =>
    if loads.getD k 0 + current ≤ budget then k :: acceptSlots budget current loads n ks
    else acceptSlots budget current loads (n + 1) ks

/-- Add a current to the running loads of the phases of a slot set, the list beginning at phase `p` (R63). -/
def raiseLoads (current : Nat) (slots : List Nat) : Nat → List Nat → List Nat
  | _, [] => []
  | p, l :: ls => (if slots.contains p then l + current else l) :: raiseLoads current slots (p + 1) ls

/-- The walk over the table (R63): an entry is placed when it accepts as many slots as it needs, all or nothing. -/
def walkEntries (budget : Nat) (order : List Nat) : List Nat → List ClaimEntry → List Placement
  | _, [] => []
  | loads, e :: es =>
    let got := acceptSlots budget e.current loads e.slots order
    if got.length = e.slots then
      { key := e.key, placed := true, slots := got } :: walkEntries budget order (raiseLoads e.current got 0 loads) es
    else { key := e.key, placed := false, slots := [] } :: walkEntries budget order loads es

/-- The map computed from a table, a budget and a burst of 2^n half-cycles (R63, R65). -/
def computeMap (n budget : Nat) (table : List ClaimEntry) : List Placement :=
  walkEntries budget (scanOrder n) (List.replicate (2 ^ n) 0) table

/-- log2 of the burst length: 5, 6 or 7 (R62). -/
def burstDigits (s : State) : Nat := 5 + s.loader.options.bCode

/-- The plan point (R61): the computation reads the table and the budget as they stand, and the Dispatcher is paused. -/
def startPlan (s : State) : State :=
  (s.setPlan { s.plan with planning := some (s.plan.table, s.plan.budget) }).setDispatcher
    { s.dispatcher with paused := true }

/-- The completion (R65): the next map is replaced whole, its status computed, and the pause ends. -/
def completePlan (s : State) : State :=
  match s.plan.planning with
  | none => s
  | some (table, budget) =>
    (s.setPlan { s.plan with next := computeMap (burstDigits s) budget table, computed := true, planning := none }).setDispatcher
      { s.dispatcher with paused := false }

/-- A computation in flight is abandoned, the next map left with status none (R66). -/
def abandonPlan (s : State) : State :=
  s.setPlan { s.plan with
    planning := none
    computed := if s.plan.planning.isSome then false else s.plan.computed }

/-- Taking an event at the plan point (R61): phase B-1. -/
def takePlan (s : State) : State := if s.base.phase + 1 = s.burst then startPlan s else s

/-! ## The swap (R67) and clearing (R73) -/

/-- The placed-last-burst flags after a swap (R55). -/
def flagEntries (map : List Placement) (table : List ClaimEntry) : List ClaimEntry :=
  table.map fun e => { e with placedLast := (placedSlots map e.key).isSome }

/-- The table of R68: the result of a driver in a heat state, by whether the new map places its key and by the entry's flag before the
swap. SHED with the flag set does not arise (log 20). -/
def placementResult (heat : ElementHeat) (placed flagBefore : Bool) : Option SwapResult :=
  match heat with
  | .off | .satisfied => none
  | .claiming => some (if placed then .admitted else if flagBefore then .shed else .stays)
  | .admitted => some (if placed then .admitted else .shed)
  | .shed => some (if placed then .admitted else .stays)

/-- The placement result handed to an own channel by the swap to `map`, decided from the driver's state and the flag before the swap
(R67, R68); only an ELEMENT channel gets one. -/
def swapResult (map : List Placement) (s : State) (c : Channel) : Option SwapResult :=
  match s.kind c with
  | .element =>
    placementResult s.elements[c].heat (placedSlots map (s.ownKey c)).isSome (entryFlag (s.ownKey c) s.plan.table)
  | .gas | .unused => none

/-- The Load Plan counts a shed for every result that says so (R69, R84). -/
def countSheds (results : Vector (Option SwapResult) 4) (s : State) : State :=
  allChannels.foldl (fun t c => if results[c] = some .shed then countShed t else t) s

/-- The map a swap installs (R67): the next map if its status is computed, else an empty one. -/
def installedMap (s : State) : List Placement := if s.plan.computed then s.plan.next else []

/-- The map swap of a burst start (R67), once: the maps, the flags, the results, and the sheds among them counted (R69). -/
def takeSwap (s : State) : State :=
  if s.base.phase ≠ 0 ∨ s.event.swapped then s
  else
    let map := installedMap s
    let results := #v[swapResult map s 0, swapResult map s 1, swapResult map s 2, swapResult map s 3]
    countSheds results ((s.setPlan { s.plan with
        table := flagEntries map s.plan.table, current := map, next := [], computed := false }).setEvent
      { s.event with swapped := true, results := results })

/-- A phase adoption clears both maps (R73); no relay stays closed (R87). -/
def clearMaps (s : State) : State :=
  openRelays (s.setPlan { s.plan with current := [], next := [], computed := false })

end Sys2Proof.Machine
end

