-- ==== Sys2Proof/Config.lean ====
section
/-!
DEFINITION. Config.lean: what this model fixes about the unit of time. The option values of a node are state
(Machine/State.lean), read once at a cold reset (R168). No value is left free: every result the spec gives a command is
stated, and what it leaves open is the order of events, which the sender of the commands chooses (log 1).
-/

namespace Sys2Proof.Config

/-- The model's unit of oscillator time: 6000 units make a millisecond, so 10 ms, 25/3 ms, their halves and one and a half
times them are whole numbers of units (log 4, DESIGN CHOICE for the unit). -/
def unitsPerMs : Nat := 6000

end Sys2Proof.Config
end

