-- ==== Sys2Proof/Machine/TimeBase.lean ====
section
/-!
DEFINITION. Machine/TimeBase.lean: the Half-Cycle Time Base's own quantities (01_half_cycle_time_base.md): nominal periods and
limits, interval classes, the run count, the judgement of a crossing while locked. Times are in units of Config.unitsPerMs.
-/

namespace Sys2Proof.Machine

/-- Tenths of a millisecond in the model's units. -/
def tenthsMs (n : Nat) : Nat := n * Config.unitsPerMs / 10

/-- The nominal period of a band: 10 ms, and 8.333 ms read as 25/3 ms (R6, log 4). -/
def nominalPeriod : Band → Nat
  | .f50 => 10 * Config.unitsPerMs
  | .f60 => 25 * Config.unitsPerMs / 3

/-- The tick rate of a band (R12). -/
def bandRate : Band → Nat
  | .f50 => 100
  | .f60 => 120

/-- The lock state that follows a band (R5). -/
def lockOf : Band → LockState
  | .f50 => .lock50
  | .f60 => .lock60

/-- The lower limit of a band (R3, R6). -/
def lowerLimit : Band → Nat
  | .f50 => tenthsMs 92
  | .f60 => tenthsMs 76

/-- The upper limit of a band (R3, R6). -/
def upperLimit : Band → Nat
  | .f50 => tenthsMs 108
  | .f60 => tenthsMs 90

/-- The class of an interval (R3): its band, or none for a bad one; bounds inclusive. -/
def classify (interval : Nat) : Option Band :=
  if within (lowerLimit .f50) interval (upperLimit .f50) then some .f50
  else if within (lowerLimit .f60) interval (upperLimit .f60) then some .f60
  else none

/-- The run count of R4. -/
def countRun (cls : Option Band) (b : TimeBase) : TimeBase :=
  match cls with
  | none => { b with runBand := none, runLength := 0 }
  | some x => if b.runBand = some x then { b with runLength := b.runLength + 1 } else { b with runBand := some x, runLength := 1 }

/-- How a crossing stands to the lock band (R6). -/
inductive Judgement where
  | early | inBand | late
  deriving DecidableEq, Repr

/-- The judgement of an interval against the lock band (R6). -/
def judge (band : Band) (interval : Nat) : Judgement :=
  if interval < lowerLimit band then .early else if upperLimit band < interval then .late else .inBand

/-- What a crossing taken while locked does to the reference and the bad run (R6). -/
def judged (j : Judgement) (t : Nat) (b : TimeBase) : TimeBase :=
  match j with
  | .inBand => { b with reference := some t, badRun := 0 }
  | .late => { b with reference := some t, badRun := b.badRun + 1 }
  | .early => { b with badRun := b.badRun + 1 }

/-- The band of the lock state, or the kept lock band in LOST (R9, R12). -/
def bandInForce (b : TimeBase) : Band :=
  match b.lock with
  | .lock50 => .f50
  | .lock60 => .f60
  | .seek | .lost => b.band.getD .f50

/-- The free-run period of SEEK and LOST (R10): 10 ms in SEEK, the lock band's in LOST. -/
def freePeriod (b : TimeBase) : Nat :=
  match b.lock with
  | .lost => nominalPeriod (b.band.getD .f50)
  | .seek | .lock50 | .lock60 => nominalPeriod .f50

end Sys2Proof.Machine
end

