-- ==== Sys2Proof/Machine/Node.lean ====
section
/-!
DEFINITION. Machine/Node.lean: the node states (11_options_start_up_and_supply.md): cold and warm reset, entering LISTEN, RUN and
CONFIG-FAULT, the supply-low hold.
-/

namespace Sys2Proof.Machine

/-! ## Supply levels (R176) -/

/-- The supply level of a code, in millivolts: 2600, 2800, 3000, 3200 (R176). -/
def supplyLevel (code : Nat) : Nat := 2600 + 200 * code

/-- The recovery margin, in millivolts (R176). -/
def recoveryMargin : Nat := 100

/-- The supply that a cold reset needs (R172, R176): above the level in use plus the margin at the end of a hold, above that of
code 0 at power-on (log 23). -/
def resetSupply (s : State) : Nat := supplyLevel (if s.loader.held then s.loader.supplyCode else 0) + recoveryMargin

/-! ## Entering a node state -/

/-- Entering LISTEN at time `t` (R174): listen count 0, the receiver in HUNT, and in SEEK or LOST the free-run generator started
with its first event one period later (R10, R11). -/
def enterListen (t : Nat) (s : State) : State :=
  let free : FreeRun :=
    if s.locked then .stopped else .running (freePeriod s.base) (t + freePeriod s.base)
  ((s.setLoader { s.loader with node := .listen, listenCount := 0, reading := false }).setReceiver
      { s.receiver with state := .hunt, taken := [], lineBusy := false }).setBase
    { s.base with freeRun := free, now := t }

/-- State-pending is set for every used channel (R162). -/
def reportAllUsed (s : State) : State := allChannels.foldl (fun t c => if t.used c then raiseState c t else t) s

/-- Entering RUN (R174): presence-due set, the presence count 0, state-pending set for every used channel (R128, R162). -/
def enterRun (s : State) : State :=
  reportAllUsed <| raiseFlag .presence <|
    (s.setLoader { s.loader with node := .run }).setPeers { s.peers with presenceCount := 0 }

/-- A burst start's count in LISTEN (R174); at 8 the entry into RUN is due. -/
def takeListen (s : State) : State :=
  if s.base.phase ≠ 0 ∨ s.loader.node ≠ .listen then s
  else
    let n := s.loader.listenCount + 1
    let t := s.setLoader { s.loader with listenCount := n }
    if 8 ≤ n then t.setEvent { t.event with due := some .listenEnd } else t

/-- The node's own frame is cut off and the line driver released; flags and marks are kept and no collision is counted
(R146). -/
def cutFrame (s : State) : State := s.setTx { s.tx with selection := none, sent := none }

/-- Entering CONFIG-FAULT (R175): outputs off, the frame in flight cut off, the frame under assembly abandoned, a plan computation
abandoned, the generator stopped; everything else is kept. -/
def enterConfigFault (s : State) : State :=
  let t := abandonPlan (cutFrame (outputsOff s))
  ((t.setLoader { t.loader with node := .configFault, reading := false }).setReceiver
      { t.receiver with state := .hunt, taken := [] }).setBase { t.base with freeRun := .stopped }

/-- The supply-low hold (R176): outputs off, the frame cut off, an option read and a plan computation abandoned. -/
def enterHold (s : State) : State :=
  let t := abandonPlan (cutFrame (outputsOff s))
  t.setLoader { t.loader with held := true, reading := false }

/-! ## Resets -/

/-- A cold reset (R172): every block at its reset value, START-UP, the option read begun. The input levels are the outside's, the
halt input as it now stands (R33); the waiting commands stay. -/
def coldReset (halt : Bool) (s : State) : State :=
  { State.reset with pins := { s.pins with halt := halt }, pending := s.pending }

/-- A warm reset at time `t` (R173): as a cold reset, but the option values, the supply level in use and the counters are kept;
the effective budget is the option budget (R56), and the node enters LISTEN at once. The valve step returns to 1 (R92), while the step
lines keep the code last latched for each channel (R171; log 32, DEDUCED). -/
def warmReset (t : Nat) (s : State) : State :=
  enterListen t
    { State.reset with
      plan := { LoadPlan.reset with budget := s.loader.options.budget }
      gas := s.gas.map fun g => { GasSequencer.reset with latched := g.latched }
      counters := s.counters
      loader := { OptionLoader.reset with options := s.loader.options, supplyCode := s.loader.supplyCode }
      pins := s.pins
      pending := s.pending }

/-- The end of the option read at time `t` (R168, R169): the values take effect together and the node enters LISTEN, or it enters
CONFIG-FAULT. The level in use may so rise above a supply that has not moved: the node keeps no supply, and a hold comes with the next
SUPPLY_LOW (log 35, DESIGN CHOICE). -/
def endOptionRead (t : Nat) (block : List Byte) (s : State) : State :=
  if blockPasses block then
    let o := readOptions block
    enterListen t ((s.setLoader { s.loader with options := o, supplyCode := o.supplyCode }).setPlan
      { s.plan with budget := o.budget })
  else enterConfigFault (s.setBase { s.base with now := t })

end Sys2Proof.Machine
end

