-- ==== Sys2Proof/Machine/Element.lean ====
section
/-!
DEFINITION. Machine/Element.lean: the Element Driver (05_element_channels.md): wanting heat and its claim, the demand sample,
the placement result, the relay.
-/

namespace Sys2Proof.Machine

/-- The channel asks for a claim (R76): CLAIMING, ADMITTED or SHED. -/
def asksClaim : ElementHeat → Bool
  | .claiming | .admitted | .shed => true
  | .off | .satisfied => false

/-- The claim content for a level greater than 0 (R78). -/
def claimContent (c : Channel) (level : Nat) (s : State) : ClaimContent :=
  { current := s.loader.options.channels[c].current, slots := level * s.burst / 16,
    cls := s.loader.options.channels[c].cls }

/-- The standing release rule (R85): an own entry whose channel is OFF or SATISFIED has release-pending set, if it is not
already. -/
def standingRelease (c : Channel) (s : State) : State :=
  if s.kind c = .element ∧ (findEntry (s.ownKey c) s.plan.table).isSome ∧ asksClaim s.elements[c].heat = false
      ∧ (flagOf s.tx (.ofChannel .release c)).isSet = false then
    raiseRelease c s
  else s

/-- Leaving the wish for a share (R80, R81): to OFF or SATISFIED, the relay open at once (R87), release-pending set. -/
def leaveShare (c : Channel) (heat : ElementHeat) (s : State) : State :=
  standingRelease c (raiseRelease c (s.setElement c { s.elements[c] with heat := heat, relay := false }))

/-- A handed level greater than 0 taken in OFF (R77). -/
def startWanting (c : Channel) (s : State) : State :=
  if s.loader.options.channels[c].demandUsed && !s.elements[c].demand then
    standingRelease c (s.setElement c { s.elements[c] with heat := .satisfied })
  else raiseClaim c (s.setElement c { s.elements[c] with heat := .claiming })

/-- The Element Driver takes a handed level (R77 to R80). A level equal to the level in hand changes nothing (R79 speaks of a
change; log 21). -/
def takeElementLevel (c : Channel) (level : Nat) (s : State) : State :=
  let e := s.elements[c]
  let t := s.setElement c
    { e with level := level, claim := if level = 0 then none else some (claimContent c level s) }
  if level = 0 then
    match e.heat with
    | .off => t
    | .satisfied => standingRelease c (t.setElement c { t.elements[c] with heat := .off })
    | .claiming | .admitted | .shed => leaveShare c .off t
  else
    match e.heat with
    | .off => startWanting c t
    | .satisfied => t
    | .claiming | .admitted | .shed => if level = e.level then t else raiseClaim c t

/-- The placement result at the driver (R84); a channel in OFF or SATISFIED is handed none. -/
def applyResult (c : Channel) (r : SwapResult) (s : State) : State :=
  if asksClaim s.elements[c].heat then
    match r with
    | .admitted => s.setElement c { s.elements[c] with heat := .admitted }
    | .shed => s.setElement c { s.elements[c] with heat := .shed, relay := false }
    | .stays => s
  else s

/-- The driver takes the result that the swap has handed it, where it has not yet (R84). -/
def takeHanded (c : Channel) (s : State) : State :=
  match s.event.results[c] with
  | none => s
  | some r => applyResult c r (s.setEvent { s.event with results := s.event.results.set c none })

/-- The driver takes the placement result of this burst start's swap (R84); the swap comes before it. -/
def takeResult (c : Channel) (s : State) : State := takeHanded c (takeSwap s)

/-- The level of the demand input, stored and acting by heat state (R81, R82). -/
def sampleDemand (c : Channel) (active : Bool) (s : State) : State :=
  let t := s.setElement c { s.elements[c] with demand := active }
  match s.elements[c].heat, active with
  | .satisfied, true => raiseClaim c (t.setElement c { t.elements[c] with heat := .claiming })
  | .claiming, false | .admitted, false | .shed, false => leaveShare c .satisfied t
  | .off, _ | .satisfied, false | .claiming, true | .admitted, true | .shed, true => t

/-- The demand sample of a burst start (R81). A sample taken after the swap finds its result taken (R70); the two changes of
heat state that this can make set state-pending once (log 33, DESIGN CHOICE). -/
def takeSample (c : Channel) (s : State) : State :=
  if s.base.phase ≠ 0 ∨ s.kind c ≠ .element ∨ s.loader.options.channels[c].demandUsed = false then s
  else sampleDemand c s.pins.sense[c] (takeHanded c s)

/-- The relay rule (R86): ADMITTED, the event's phase in the key's slots of the current map, locked, in RUN. -/
def relayCloses (c : Channel) (s : State) : Bool :=
  s.elements[c].heat == .admitted
    && ((placedSlots s.plan.current (s.ownKey c)).getD []).contains s.base.phase
    && s.locked && s.inRun

/-- Setting the relay at a half-cycle event (R86); at a burst start the map read is the one the swap installs (R71). -/
def takeRelay (c : Channel) (s : State) : State :=
  let t := takeSwap s
  if t.kind c = .element then t.setElement c { t.elements[c] with relay := relayCloses c t } else t

end Sys2Proof.Machine
end

