-- ==== Sys2Proof/Machine/Gas.lean ====
section
/-!
DEFINITION. Machine/Gas.lean: the Gas Sequencer and the Spark Arbiter (06_gas_channels_and_spark_sharing.md): the spark queue,
ignition, proving, relight, purge and lockout, flame sensing, the spark start point.
-/

namespace Sys2Proof.Machine

/-! ## The spark queue (R96, R97) -/

/-- Replace the spark queue. The head dwell returns to 0 where the head changes or the queue is empty (R100). -/
def setQueue (q : List Key) (s : State) : State :=
  s.setArbiter { s.arbiter with
    queue := q, dwell := if q.head? = s.arbiter.queue.head? then (if q = [] then 0 else s.arbiter.dwell) else 0 }

/-- A key joins at the tail if it is absent (R97, R98). -/
def appendKey (k : Key) (s : State) : State :=
  if k ∈ s.arbiter.queue then s else setQueue (s.arbiter.queue ++ [k]) s

/-- Clear an own channel's free-outstanding indication (R97). -/
def clearOutstanding (c : Channel) (s : State) : State :=
  s.setArbiter { s.arbiter with freeOutstanding := s.arbiter.freeOutstanding.set c false }

/-- Remove a key wherever it stands; the removal of an own key clears its free-outstanding indication (R97). -/
def removeKey (k : Key) (s : State) : State :=
  if k ∈ s.arbiter.queue then
    let t := setQueue (s.arbiter.queue.filter fun x => x ≠ k) s
    if k.station = s.loader.options.address then clearOutstanding k.channel t else t
  else s

/-- Remove every key of a station (R99). -/
def removeStationKeys (a : Fin 8) (s : State) : State :=
  setQueue (s.arbiter.queue.filter fun x => x.station ≠ a) s

/-- The channel's key is in the own queue. -/
def keyQueued (c : Channel) (s : State) : Bool := s.arbiter.queue.contains (s.ownKey c)

/-! ## Shared pieces of the sequencer -/

/-- The heat states that want the spark (R98, R112). -/
def wantsSpark : GasHeat → Bool
  | .waitSpark | .ignite | .relightWait | .relightSpark => true
  | .off | .proven | .purge | .lockout => false

/-- Set spark-free-pending if the channel's key is in the own queue (R104, R107, R110). -/
def freeIfQueued (c : Channel) (s : State) : State := if keyQueued c s then raiseSparkFree c s else s

/-- The standing spark-free rule (R112): an own key whose channel does not want the spark has spark-free-pending set, if it is
not already. -/
def standingFree (c : Channel) (s : State) : State :=
  if s.kind c = .gas ∧ keyQueued c s = true ∧ wantsSpark s.gas[c].heat = false
      ∧ (flagOf s.tx (.ofChannel .sparkFree c)).isSet = false then
    raiseSparkFree c s
  else s

/-- The stray-flame test (R108). -/
def strayTest (c : Channel) (s : State) : State :=
  if s.gas[c].flame then s.setGas c { s.gas[c] with stray := true } else s

/-- A countdown of so many seconds, at the tick rate handed with the event at which, or after which, it starts (R95). -/
def windowOf (w : Window) (seconds : Nat) (s : State) : Countdown := { window := w, left := seconds * s.base.eventRate }

/-- The sequencer sets the valve step, and the shared step lines latch it for the channel (R93). -/
def setStep (code : Nat) (g : GasSequencer) : GasSequencer := { g with step := code, latched := code }

/-- Entering WAIT-SPARK (R102, R105): spark-pending set and the stray-flame test made. -/
def enterWaitSpark (c : Channel) (s : State) : State :=
  strayTest c (raiseSpark c (s.setGas c { s.gas[c] with heat := .waitSpark, countdown := none }))

/-- Entering LOCKOUT (R109): valve closed, spark off, countdown none; the cause is reported to the Zone Program Unit. -/
def enterLockout (c : Channel) (cause : FaultCode) (s : State) : State :=
  lockoutReport c cause <| standingFree c <|
    s.setGas c { s.gas[c] with heat := .lockout, valve := false, spark := false, countdown := none }

/-- A failed ignition attempt (R104): valve closed, spark off, spark-free-pending if the key is still queued, attempts and
ignition-fails up by 1, then PURGE while attempts are left and else LOCKOUT. -/
def failAttempt (c : Channel) (s : State) : State :=
  let t := countIgnitionFail <| freeIfQueued c <|
    s.setGas c { s.gas[c] with
      valve := false, spark := false, countdown := none, attempts := s.gas[c].attempts + 1 }
  if s.gas[c].attempts + 1 < s.loader.options.attempts then
    standingFree c <| t.setGas c
      { t.gas[c] with heat := .purge, countdown := some (windowOf .purge s.loader.options.purgeSeconds s) }
  else enterLockout c .ignitionLockout t

/-- What an own key's removal by the hold limit or a restatement does to its channel (R111). -/
def keyLost (c : Channel) (s : State) : State :=
  if s.kind c = .gas then
    match s.gas[c].heat with
    | .waitSpark | .relightWait => raiseSpark c s
    | .ignite => failAttempt c s
    | .relightSpark => raiseSpark c (s.setGas c { s.gas[c] with heat := .relightWait, spark := false })
    | .off | .proven | .purge | .lockout => s
  else s

/-- Remove a key by the hold limit or a restatement; an own key that was queued acts on its channel (R111). -/
def dropKey (k : Key) (s : State) : State :=
  if k ∈ s.arbiter.queue ∧ k.station = s.loader.options.address then keyLost k.channel (removeKey k s) else removeKey k s

/-! ## Hand-overs (R102, R110) -/

/-- A handed level of 0 (R110, R109): any state but OFF and LOCKOUT goes OFF. -/
def endWanting (c : Channel) (s : State) : State :=
  standingFree c <| freeIfQueued c <| lowerFlag (.ofChannel .spark c) <|
    s.setGas c { s.gas[c] with heat := .off, valve := false, spark := false, countdown := none, stray := false }

/-- The Gas Sequencer takes a handed level (R102, R109, R110). -/
def takeGasLevel (c : Channel) (level : Nat) (s : State) : State :=
  let t := s.setGas c { s.gas[c] with level := level }
  match s.gas[c].heat with
  | .off => if level = 0 then t else enterWaitSpark c (t.setGas c { t.gas[c] with attempts := 0 })
  | .lockout => t
  | .waitSpark | .ignite | .proven | .relightWait | .relightSpark | .purge => if level = 0 then endWanting c t else t

/-- A lockout clear handed at a STOP (R32, R109): LOCKOUT goes OFF with attempts 0. -/
def clearLockout (c : Channel) (s : State) : State :=
  if lockedOut c s then
    standingFree c (s.setGas c { s.gas[c] with heat := .off, attempts := 0, stray := false })
  else s

/-- STOP on a used channel (R32), as a STOP, a HALT-ALL and a halt assertion make it. -/
def stopChannel (c : Channel) (s : State) : State :=
  if s.programs[c].state = .empty then s
  else clearLockout c (updateProgram c (stoppedProgram s.programs[c]) s)

/-- STOP on one named channel (R23, R32). -/
def stopOn (c : Channel) (s : State) : State :=
  if !s.used c || !s.inRun then refuse c s else stopChannel c s

/-- A STOP on every used channel, with no refusal (R33). -/
def stopAll (s : State) : State := allChannels.foldl (fun t c => if t.used c then stopChannel c t else t) s

/-! ## Flame sensing and the half-cycle event (R94, R95) -/

/-- The debounced flame has become present (R104, R107, R108). -/
def flameAppears (c : Channel) (s : State) : State :=
  match s.gas[c].heat with
  | .ignite =>
    standingFree c <| raiseSparkFree c <| s.setGas c
      { setStep s.gas[c].level s.gas[c] with heat := .proven, spark := false, attempts := 0, countdown := none }
  | .relightWait | .relightSpark =>
    standingFree c <| lowerFlag (.ofChannel .spark c) <| freeIfQueued c <| s.setGas c
      { setStep s.gas[c].level s.gas[c] with heat := .proven, spark := false, countdown := none }
  | .waitSpark => strayTest c s
  | .off | .proven | .purge | .lockout => s

/-- The debounced flame has become absent (R106): a PROVEN burner goes to RELIGHT-WAIT. -/
def flameVanishes (c : Channel) (s : State) : State :=
  match s.gas[c].heat with
  | .proven =>
    countFlameLoss <| raiseSpark c <| s.setGas c
      { setStep s.loader.options.ignitionStep s.gas[c] with
        heat := .relightWait
        countdown := some (windowOf .relight s.loader.options.relightSeconds s) }
  | .off | .waitSpark | .ignite | .relightWait | .relightSpark | .purge | .lockout => s

/-- Which step a window's end makes due (R104, R105, R107). -/
def windowEnd (c : Channel) : Window → Due
  | .ignition => .ignitionEnd c
  | .purge => .purgeEnd c
  | .relight => .relightEnd c

/-- Step 3 of R95: in PROVEN the valve step is set to the level in hand. -/
def setProvenStep (c : Channel) (s : State) : State :=
  if s.gas[c].heat = .proven then s.setGas c (setStep s.gas[c].level s.gas[c]) else s

/-- Step 2 of R95: a running countdown is decreased, and its window's end is due where it reaches 0. -/
def countDown (c : Channel) (s : State) : State :=
  match s.gas[c].countdown with
  | none => s
  | some w =>
    let t := s.setGas c { s.gas[c] with countdown := some { w with left := w.left - 1 } }
    if w.left ≤ 1 then t.setEvent { t.event with due := some (windowEnd c w.window) } else t

/-- Steps 2 and 3 of R95. A countdown started at step 1 of the same event is not decreased at it (R95: "at every half-cycle
event taken after that moment"), so `running` says whether one ran before step 1. -/
def sequencerRest (c : Channel) (running : Bool) (s : State) : State :=
  setProvenStep c (if running then countDown c s else s)

/-- The Gas Sequencer takes a half-cycle event (R94, R95). A change of the debounced flame is due as a step of its own, which
goes on with steps 2 and 3. -/
def takeFlame (c : Channel) (s : State) : State :=
  if s.kind c ≠ .gas then s
  else
    let g := s.gas[c]
    if s.pins.sense[c] = g.flame then sequencerRest c g.countdown.isSome (s.setGas c { g with run := 0 })
    else
      let t := s.setGas c { g with run := g.run + 1 }
      if (if g.flame then 2 else 4) ≤ g.run + 1 then
        t.setEvent { t.event with due := some (if g.flame then .flameAbsent c else .flamePresent c) }
      else sequencerRest c g.countdown.isSome t

/-- The debounced flame becomes present (R94), then steps 2 and 3 of R95. -/
def flamePresentStep (c : Channel) (s : State) : State :=
  sequencerRest c s.gas[c].countdown.isSome (flameAppears c (s.setGas c { s.gas[c] with flame := true, run := 0 }))

/-- The debounced flame becomes absent (R94), then steps 2 and 3 of R95. -/
def flameAbsentStep (c : Channel) (s : State) : State :=
  sequencerRest c s.gas[c].countdown.isSome (flameVanishes c (s.setGas c { s.gas[c] with flame := false, run := 0 }))

/-- The ignition countdown has ended (R104); it finds no ignition to end outside IGNITE. -/
def ignitionEndStep (c : Channel) (s : State) : State :=
  if s.gas[c].heat = .ignite then failAttempt c s else s

/-- The purge countdown has ended (R105). -/
def purgeEndStep (c : Channel) (s : State) : State :=
  if s.gas[c].heat = .purge then enterWaitSpark c s else s

/-- The relight countdown has ended (R107). -/
def relightEndStep (c : Channel) (s : State) : State :=
  if s.gas[c].heat = .relightWait ∨ s.gas[c].heat = .relightSpark then
    enterLockout c .flameLossLockout (freeIfQueued c (s.setGas c { s.gas[c] with valve := false, spark := false }))
  else s

/-! ## The Arbiter's dwell and the hold limit (R100) -/

/-- The Arbiter takes a half-cycle event (R100): the dwell goes up while the queue is not empty, and the hold limit is due at
ten times the tick rate handed with the event. -/
def takeDwell (s : State) : State :=
  if s.arbiter.queue = [] then s
  else
    let t := s.setArbiter { s.arbiter with dwell := s.arbiter.dwell + 1 }
    if 10 * s.base.eventRate ≤ s.arbiter.dwell + 1 then t.setEvent { t.event with due := some .holdLimit } else t

/-- The hold limit removes the head (R100, R111). -/
def holdLimitStep (s : State) : State :=
  match s.arbiter.queue with
  | [] => s
  | k :: _ => dropKey k (countSparkConflict s)

/-! ## The spark start point (R101, R103, R107, R108, R114) -/

/-- The heat states from which a start may be made (R101): waiting, or lit with the spark off (R114). -/
def mayStart (g : GasSequencer) : Bool :=
  match g.heat with
  | .waitSpark | .relightWait => true
  | .ignite | .relightSpark => !g.spark
  | .off | .proven | .purge | .lockout => false

/-- A start (R101): from WAIT-SPARK into IGNITE with the valve open at the ignition step (R103), from RELIGHT-WAIT into
RELIGHT-SPARK (R107), else the spark alone (R114). -/
def startSpark (c : Channel) (s : State) : State :=
  let g := s.gas[c]
  match g.heat with
  | .waitSpark =>
    s.setGas c { setStep s.loader.options.ignitionStep g with
      heat := .ignite, spark := true, stray := false, valve := true
      countdown := some (windowOf .ignition s.loader.options.ignitionSeconds s) }
  | .relightWait => s.setGas c { g with heat := .relightSpark, spark := true }
  | .ignite | .relightSpark | .off | .proven | .purge | .lockout => s.setGas c { g with spark := true }

/-- Giving way to a stray flame at the head (R108). -/
def giveWay (c : Channel) (s : State) : State := raiseSpark c (raiseSparkFree c s)

/-- In RUN, locked, with spark-free-pending and the free-outstanding indication clear (R101, R108). -/
def startEnabled (c : Channel) (s : State) : Bool :=
  s.inRun && s.locked && !(flagOf s.tx (.ofChannel .sparkFree c)).isSet && !s.arbiter.freeOutstanding[c]

/-- The own GAS channel whose key is at the head of the own queue (R101). -/
def headChannel (s : State) : Option Channel :=
  match s.arbiter.queue.head? with
  | none => none
  | some k => if k.station = s.loader.options.address ∧ s.kind k.channel = .gas then some k.channel else none

/-- The start point at the own head gas channel, `busy` being the spark-busy line as sensed (R101, R108). -/
def considerStart (c : Channel) (busy : Bool) (s : State) : State :=
  if !startEnabled c s then s
  else if s.gas[c].flame then (if s.gas[c].heat = .waitSpark then giveWay c s else s)
  else if !mayStart s.gas[c] then s
  else if busy then countSparkConflict s
  else startSpark c s

/-- The spark start point of the half-cycle (R101), with the busy line driven or not by another node; the node senses its own
drive too. -/
def sparkPoint (busy : Bool) (s : State) : State :=
  match headChannel s with
  | none => s
  | some c => considerStart c (busy || s.sparkEnable) s

end Sys2Proof.Machine
end

