-- ==== Sys2Proof/Machine/Peers.lean ====
section
/-!
DEFINITION. Machine/Peers.lean: the Peer Table (07_peers_and_presence.md) and what a delivered PRESENCE does: the record, the
derived values, phase adoption (R16, R17), the restatement of claims (R52) and of spark keys (R98); silence and departure.
-/

namespace Sys2Proof.Machine

/-! ## Derived values (R120) -/

/-- Some present peer node has a recorded B code different from the own (R127). -/
def mismatchHolds (s : State) : Bool :=
  (presentNodes s).any fun a => s.peers.records[a].bCode != some s.loader.options.bCode

/-- Some present peer node has a recorded budget different from the own (R126). -/
def budgetsDiffer (s : State) : Bool :=
  (presentNodes s).any fun a => s.peers.records[a].budget != some s.loader.options.budget

/-- The phase source (R124): the lowest present peer node, if it is below the own address and its B code is the own. -/
def sourceOf (s : State) : Option Station :=
  match presentNodes s with
  | [] => none
  | a :: _ =>
    if a.val < s.loader.options.address.val ∧ s.peers.records[a].bCode = some s.loader.options.bCode then some a else none

/-- The recomputation of R120 and the effective budget's after it (R57). -/
def recomputeDerived (s : State) : State :=
  recomputeBudget (s.setPeers { s.peers with
    budgetDiffers := budgetsDiffer s, bMismatch := mismatchHolds s, phaseSource := sourceOf s })

/-- Replace a peer record. -/
def setRecord (a : Station) (r : PeerRecord) (s : State) : State :=
  s.setPeers { s.peers with records := s.peers.records.set a r }

/-! ## Taking a PRESENCE (R119) -/

/-- The P recorded from a PRESENCE: the carried one in 2..8, else 8 (R119). -/
def recordedInterval (n : Nat) : Nat := if within 2 n 8 then n else 8

/-- The record a PRESENCE leaves (R119): from a node the carried budget, B code and P, and three times P to go; from 8..15 a
countdown of 24. -/
def heardRecord (a : Station) (body : List Byte) : PeerRecord :=
  if a.val < 8 then
    let p := recordedInterval (presenceInterval body)
    { present := true, countdown := 3 * p, budget := some (presenceBudget body), bCode := some (presenceBCode body),
      interval := some p }
  else { present := true, countdown := 24, budget := none, bCode := none, interval := none }

/-- The phase shift of an adoption (R16): carried less opener phase, modulo B. -/
def phaseShift (b carried opener : Nat) : Nat := (carried % b + b - opener % b) % b

/-- Phase adoption (R16, R17): equal phases change nothing; else the phase moves by the difference, both maps are cleared and the
adjustment counted. -/
def adoptPhase (carried opener : Nat) (s : State) : State :=
  let d := phaseShift s.burst carried opener
  if d = 0 then s
  else countPhaseAdjust (clearMaps (s.setBase { s.base with phase := (s.base.phase + d) % s.burst }))

/-- The restatement of one channel's claim entry (R52): ELEMENT with a claim in range sets it, out of range leaves it, anything
else removes it. -/
def restateEntry (b : Nat) (k : Key) (m : Summary) (table : List ClaimEntry) : List ClaimEntry :=
  let x : ClaimContent := { current := m.current, slots := m.slots, cls := m.cls }
  if m.kindField = 1 ∧ m.claimed = true then (if claimInRange b x then putEntry k x table else table)
  else removeEntry k table

/-- The restatement of a channel's claim, with the standing release rule where an own entry is inserted or changed (R52, R53,
R85). -/
def restateClaim (st : Fin 8) (body : List Byte) (s : State) (c : Channel) : State :=
  let k : Key := { station := st, channel := c }
  let t := setTable (restateEntry s.burst k (readSummary body c) s.plan.table) s
  if st = s.loader.options.address ∧ findEntry k t.plan.table ≠ findEntry k s.plan.table then standingRelease c t else t

/-- The restatement of a channel's spark key (R98): appended or left where the indication is set, with the standing rule for an
own key appended (R112); else removed, an own channel acting by R111. -/
def restateSpark (st : Fin 8) (body : List Byte) (s : State) (c : Channel) : State :=
  let k : Key := { station := st, channel := c }
  if (readSummary body c).queued then
    if k ∈ s.arbiter.queue then s
    else if st = s.loader.options.address then standingFree c (appendKey k s)
    else appendKey k s
  else dropKey k s

/-- The restatements of a node's PRESENCE, in channel order 0 to 3 (R52, R98). -/
def restateAll (st : Fin 8) (body : List Byte) (s : State) : State :=
  allChannels.foldl (restateSpark st body) (allChannels.foldl (restateClaim st body) s)

/-- A delivered PRESENCE (R119, R120, R130): the record and the derived values first, then the phase-source test and the
restatements. From the own address the frame is taken when it is marked own, with no record and no adoption (R130). -/
def takePresence (f : RxFrame) (s : State) : State :=
  if s.isOwn f.source then
    if f.own then restateAll s.loader.options.address f.body (recomputeDerived s) else s
  else
    let t := recomputeDerived (setRecord f.source (heardRecord f.source f.body) s)
    match nodeOf f.source with
    | none => t
    | some st =>
      restateAll st f.body
        (if t.peers.phaseSource = some f.source then adoptPhase (presencePhase f.body) f.openerPhase t else t)

/-! ## Silence and departure (R121, R122) -/

/-- A burst start's decrease of one record's silence countdown (R121); at 0 the departure is due. -/
def takeSilence (a : Station) (s : State) : State :=
  let r := s.peers.records[a]
  if s.base.phase ≠ 0 ∨ r.present = false then s
  else
    let t := setRecord a { r with countdown := r.countdown - 1 } s
    if r.countdown ≤ 1 then t.setEvent { t.event with due := some (.departure a) } else t

/-- A departure (R121, R122): the record is cleared; a node's claim entries and spark keys go, and the derived values are
recomputed. -/
def departureStep (a : Station) (s : State) : State :=
  let t := setRecord a PeerRecord.reset s
  match nodeOf a with
  | none => t
  | some st =>
    recomputeDerived (removeStationKeys st (setTable (t.plan.table.filter fun e => e.key.station ≠ st) t))

/-! ## The presence count (R128) -/

/-- A burst start's advance of the presence count in RUN (R128); at P presence-due is due. -/
def takePresenceCount (s : State) : State :=
  if s.base.phase ≠ 0 ∨ s.inRun = false then s
  else
    let n := s.peers.presenceCount + 1
    let t := s.setPeers { s.peers with presenceCount := n }
    if s.loader.options.interval ≤ n then t.setEvent { t.event with due := some .presenceDue } else t

/-- The presence count has reached P (R128). -/
def presenceDueStep (s : State) : State :=
  raiseFlag .presence (s.setPeers { s.peers with presenceCount := 0 })

end Sys2Proof.Machine
end

