-- ==== Sys2Proof/Machine/Line.lean ====
section
/-!
DEFINITION. Machine/Line.lean: the range line (08_the_range_line.md): the CRC and the frame, the notices' bodies as the node
sends them, selection and frame start, the echo comparator, the Line Receiver, the receive FIFO.
-/

namespace Sys2Proof.Machine

/-! ## Frame and CRC (R134) -/

/-- One bit of the CRC computation: polynomial 1021h, most significant bit first (R134). -/
def crcBit (crc : BitVec 16) (bit : Bool) : BitVec 16 :=
  if crc.msb != bit then (crc <<< 1) ^^^ 0x1021#16 else crc <<< 1

/-- One character of the CRC computation, bits 7 to 0 (R134). -/
def crcByte (crc : BitVec 16) (b : Byte) : BitVec 16 :=
  [7, 6, 5, 4, 3, 2, 1, 0].foldl (fun x i => crcBit x (bitOf b i)) crc

/-- The CRC of characters in line order, from FFFFh, not reflected and not inverted (R134). -/
def crcOf (chars : List Byte) : BitVec 16 := chars.foldl crcByte 0xFFFF#16

/-- The opener character (R134). -/
def openerChar : Byte := 0xC3#8

/-- The two check characters, high first (R134). -/
def checkChars (chars : List Byte) : List Byte := [byteOf ((crcOf chars).toNat / 256), byteOf ((crcOf chars).toNat)]

/-- The whole frame of a notice (R134). -/
def buildFrame (source : Nat) (kind : NoticeKind) (body : List Byte) : List Byte :=
  let checked := byteOf (source * 16 + kindCode kind) :: byteOf body.length :: body
  openerChar :: checked ++ checkChars checked

/-! ## Bodies of the node's own notices (section 9.6) -/

/-- The channel summary of an own channel: what it wants at the selection (R91, R98, R129, R152). The class bits of a GAS channel,
which the spec gives no value, are sent as 0 (log 31, DESIGN CHOICE). -/
def summaryChars (s : State) (c : Channel) : List Byte :=
  match s.kind c with
  | .unused => [0, 0, 0]
  | .gas => [byteOf (2 + bitVal (wantsSpark s.gas[c].heat) 64), 0, 0]
  | .element =>
    match asksClaim s.elements[c].heat, s.elements[c].claim with
    | true, some x => [byteOf (1 + 4 + x.cls * 16), byteOf x.current, byteOf x.slots]
    | _, _ => [1, 0, 0]

/-- The body of the own PRESENCE (R129, R151). -/
def presenceBody (s : State) : List Byte :=
  [byteOf s.base.phase, byteOf (s.loader.options.interval * 16 + s.loader.options.bCode),
    byteOf (bitVal s.peers.bMismatch 32 + bitVal s.peers.budgetDiffers 16 + lockStateCode s.base.lock),
    byteOf s.loader.options.budget]
  ++ summaryChars s 0 ++ summaryChars s 1 ++ summaryChars s 2 ++ summaryChars s 3

/-- The body of a CLAIM (R141, R153): the claim content as it stands. -/
def claimBody (s : State) (c : Channel) : List Byte :=
  match s.elements[c].claim with
  | some x => [byteOf (c.val * 16 + x.cls), byteOf x.current, byteOf x.slots]
  | none => [byteOf (c.val * 16), 0, 0]

/-- The body of a STATE (R157, R160). -/
def stateBody (s : State) (c : Channel) : List Byte :=
  let p := s.programs[c]
  match s.kind c with
  | .unused => [byteOf c.val, 0, 0, 15, 0, 0, byteOf (bitVal p.refused 2), 0]
  | .element | .gas =>
    [byteOf c.val, byteOf (programStateCode p.state), byteOf (p.index * 16 + p.repeatsDone), byteOf (heatCode s c),
      byteOf (remainingTime p / 256), byteOf (remainingTime p),
      byteOf (bitVal p.alert 1 + bitVal p.refused 2 + bitVal (strayShown s c) 4), byteOf (faultCodeOf p.fault)]

/-- The body of a COUNTS (R157, R166). -/
def countsBody (x : Counters) : List Byte :=
  [byteOf x.checkErrors, byteOf x.collisions, byteOf x.fifoOverflows, byteOf x.phaseAdjusts, byteOf x.sheds,
    byteOf x.ignitionFails, byteOf x.flameLosses, byteOf x.sparkConflicts]

/-- The kind of a request's notice (R141). -/
def requestKind : Request → NoticeKind
  | .haltAll => .haltAll
  | .presence => .presence
  | .counts => .counts
  | .ofChannel .claim _ => .claim
  | .ofChannel .release _ => .release
  | .ofChannel .spark _ => .spark
  | .ofChannel .sparkFree _ => .sparkFree
  | .ofChannel .state _ => .state

/-- The body of a request's notice, from the state at the selection (R141). -/
def requestBody (s : State) : Request → List Byte
  | .haltAll => []
  | .presence => presenceBody s
  | .counts => countsBody s.counters
  | .ofChannel .claim c => claimBody s c
  | .ofChannel .release c | .ofChannel .spark c | .ofChannel .sparkFree c => [byteOf c.val]
  | .ofChannel .state c => stateBody s c

/-- The refused flag and the refusal mark of the channel a request is about; for a node-wide one the values are not used. -/
def refusalOf (s : State) : Request → Bool × BitVec 8
  | .ofChannel _ c => (s.programs[c].refused, s.programs[c].refusalMark)
  | .haltAll | .presence | .counts => (false, 0)

/-! ## Selection and frame start (R141, R143) -/

/-- The selection of a request: mark and snapshot recorded, frame built (R141). -/
def selectionOf (s : State) (r : Request) : Selection :=
  { request := r, mark := (flagOf s.tx r).mark,
    frame := buildFrame s.loader.options.address.val (requestKind r) (requestBody s r),
    refusedShown := (refusalOf s r).1, refusalMark := (refusalOf s r).2, counters := s.counters }

/-- The Transmitter takes a half-cycle event (R141): in RUN, with no own frame on the line (R146), it selects at most one
notice. -/
def takeSelect (s : State) : State :=
  if s.inRun && s.tx.sent.isNone then s.setTx { s.tx with selection := (chooseRequest s.tx).map (selectionOf s) } else s

/-- A station's rank in a half-cycle (R142). -/
def rankOf (address phase : Nat) : Nat := (address + 16 - phase % 16) % 16

/-- A node's defer in bit times from the half-cycle event (R142); the spark start point falls at the same moment (R101). -/
def deferOf (address phase : Nat) : Nat := 4 + 2 * rankOf address phase

/-- The node's own defer in the half-cycle under way: by the phase that its event set, which a later adoption does not move
(R142). -/
def State.defer (s : State) : Nat := deferOf s.loader.options.address.val s.base.eventPhase

/-- The conditions of a frame's start (R143): the line quiet from the event to this moment, the receiver in HUNT, RUN, and no frame or
abort in this half-cycle. `quiet` says of R133's indication that it was quiet all that time; the indication known to have been busy
at or since the event contradicts it (log 14). -/
def mayTransmit (quiet : Bool) (s : State) : Bool :=
  quiet && !s.receiver.busySince && s.receiver.state == .hunt && s.inRun && !s.tx.attempted

/-- The end of the defer of a node with a selection (R143): it starts its frame, or the selection lapses and the flag stays. -/
def deferEnd (quiet : Bool) (s : State) : State :=
  match s.tx.selection, s.tx.sent with
  | some _, none =>
    if mayTransmit quiet s then
      (s.setTx { s.tx with sent := some 0, attempted := true }).setReceiver { s.receiver with lineBusy := true, busySince := true }
    else s.setTx { s.tx with selection := none }
  | _, _ => s

/-! ## Success and abort (R144, R145) -/

/-- A STATE success: the refused flag is cleared where the snapshot carried it and the refusal mark is the one recorded
(R163). -/
def clearRefused (x : Selection) (c : Channel) (s : State) : State :=
  if x.refusedShown ∧ s.programs[c].refusalMark = x.refusalMark then
    s.setProgram c { s.programs[c] with refused := false }
  else s

/-- What the owner of a notice does at its success (R145): STATE by R163, COUNTS by R166. -/
def ownerSuccess (x : Selection) (s : State) : State :=
  match x.request with
  | .ofChannel .state c => clearRefused x c s
  | .counts => s.setCounters (reduceCounters x.counters s.counters)
  | .haltAll | .presence | .ofChannel .claim _ | .ofChannel .release _ | .ofChannel .spark _
  | .ofChannel .sparkFree _ => s

/-- The success of the frame in flight (R145). -/
def transmitSuccess (x : Selection) (s : State) : State :=
  ownerSuccess x (s.setTx { settleFlag x.request x.mark s.tx with selection := none, sent := none })

/-- An abort (R144): the driver is released, the collision counted, the flag kept; no further frame in this half-cycle. -/
def abortFrame (s : State) : State :=
  countCollision (s.setTx { s.tx with selection := none, sent := none, attempted := true })

/-! ## The Line Receiver (R135) -/

/-- A discard (R135): the check error is counted and the frame under assembly given up. -/
def discardFrame (next : ReceiverState) (s : State) : State :=
  countCheckError (s.setReceiver { s.receiver with state := next, taken := [] })

/-- A valid frame enters the receive FIFO, or is dropped and counted where the FIFO holds 4 (R138). -/
def queueFrame (f : RxFrame) (s : State) : State :=
  if s.dispatcher.fifo.length < 4 then s.setDispatcher { s.dispatcher with fifo := s.dispatcher.fifo ++ [f] }
  else countFifoOverflow s

/-- A valid frame (R137): the own echo and other stations' frames are queued; another station's frame with the own source address
is an address clash. -/
def validFrame (f : RxFrame) (s : State) : State :=
  if !f.own && s.isOwn f.source then enterConfigFault s else queueFrame f s

/-- The source address of a header (R134). -/
def headerSource (h : Byte) : Station := ⟨highHalf h, by have := h.isLt; unfold highHalf; omega⟩

/-- The receiver after a frame's last character: HUNT. -/
def endAssembly (s : State) : State := s.setReceiver { s.receiver with state := .hunt, taken := [] }

/-- The second check character has been taken (R135): the CRC decides. `chars` are the characters from the header on. -/
def completeFrame (chars : List Byte) (kind : NoticeKind) (own : Bool) (s : State) : State :=
  let m := chars.length - 2
  let t := endAssembly s
  if checkChars (chars.take m) = chars.drop m then
    let f : RxFrame :=
      { source := headerSource (charAt chars 0)
        kind := kind
        body := (chars.take m).drop 2
        own := own
        openerPhase := s.receiver.openerPhase }
    validFrame f t
  else countCheckError t

/-- A character taken in FRAME (R135): header, length, body, check. `own` says the echo comparator has compared the whole own
frame equal with this character (R136). -/
def frameChar (b : Byte) (own : Bool) (s : State) : State :=
  let chars := s.receiver.taken ++ [b]
  let kept := s.setReceiver { s.receiver with taken := chars }
  match kindOfCode (lowHalf (charAt chars 0)) with
  | none => discardFrame .resync s
  | some kind =>
    if chars.length = 1 then kept
    else if (charAt chars 1).toNat ≠ bodyLength kind (highHalf (charAt chars 0)) then discardFrame .resync s
    else if chars.length = (charAt chars 1).toNat + 4 then completeFrame chars kind own kept
    else kept

/-- The receiver takes a character (R135). In FRAME a framing error leads to RESYNC in a check character too, where R135 names neither
RESYNC ("before the check") nor HUNT (after the CRC) (log 29, DESIGN CHOICE). The opener phase is the phase where the character is
taken, whole, so a half-cycle event inside the opener has set it (R15, R135; log 34, DESIGN CHOICE). -/
def receiveChar (ch : LineChar) (own : Bool) (s : State) : State :=
  match s.receiver.state with
  | .hunt =>
    if ch.framingError = false ∧ ch.byte = openerChar then
      s.setReceiver { s.receiver with state := .frame, taken := [], openerPhase := s.base.phase }
    else s
  | .resync => s
  | .frame => if ch.framingError then discardFrame .resync s else frameChar ch.byte own s

/-! ## The echo comparator (R136) -/

/-- The character the node is sending and the selection it belongs to, while it sends. -/
def sending (s : State) : Option (Selection × Nat × Byte) :=
  match s.tx.selection, s.tx.sent with
  | some x, some n => (x.frame[n]?).map fun b => (x, n, b)
  | _, _ => none

/-- The line-busy indication as a character's stop bit is sampled (R133): a dominant level within the last 2 bit times. A character
goes out least significant bit first (R132), so the stop bit, bit 7 and bit 6 are what was on the line then (log 14, DEDUCED). -/
def busyAfter (ch : LineChar) : Bool := ch.framingError || !bitOf ch.byte 7 || !bitOf ch.byte 6

/-- A character on the line (R132, R135, R136): while the node sends, the comparator compares it, a mismatch aborts and the last equal
one is the success; the receiver takes it in every case. A second character since the half-cycle event, or one that leaves the line busy,
says that the line has been busy since (R133, log 14). The success, with its reduction of the counters (R166), comes before the
frame enters the FIFO or is dropped at the same moment (R145; log 30, DESIGN CHOICE). -/
def takeChar (ch : LineChar) (s : State) : State :=
  if s.active then
    let t := s.setReceiver { s.receiver with
      lineBusy := busyAfter ch, heard := true, busySince := s.receiver.busySince || s.receiver.heard || busyAfter ch }
    match sending s with
    | none => receiveChar ch false t
    | some (x, n, b) =>
      if ch.framingError = false ∧ ch.byte = b then
        if n + 1 = x.frame.length then receiveChar ch true (transmitSuccess x t)
        else receiveChar ch false (t.setTx { t.tx with sent := some (n + 1) })
      else receiveChar ch false (abortFrame t)
  else s

/-- Characters without framing error, one after another. -/
def takeChars (chars : List Byte) (s : State) : State :=
  chars.foldl (fun t b => takeChar { byte := b, framingError := false } t) s

/-- The line-busy indication as it stands at a moment (R133): a dominant level within the last 2 bit times, or none. In START-UP and
CONFIG-FAULT the receiver is idle. -/
def senseLine (busy : Bool) (s : State) : State :=
  if s.active then
    s.setReceiver { s.receiver with lineBusy := busy, busySince := s.receiver.busySince || busy }
  else s

/-- Nothing is on the line for more than 2 bit times: the indication falls to quiet (R133). -/
def lineRests (s : State) : State := senseLine false s

/-- A gap of more than 3 character times (R135): the line is quiet, and a frame under assembly is discarded. -/
def lineGap (s : State) : State :=
  let t := lineRests s
  if t.active && t.receiver.state == .frame then discardFrame .hunt t else t

/-- The line has been quiet for 3 character times (R135), which ends RESYNC. -/
def lineQuiet (s : State) : State :=
  let t := lineRests s
  if t.active && t.receiver.state == .resync then t.setReceiver { t.receiver with state := .hunt } else t

/-- A character received while sending that differs from the one sent (R144); one that does not differ is no abort. -/
def echoMismatch (ch : LineChar) (s : State) : State :=
  match sending s with
  | none => s
  | some (_, _, b) => if ch.framingError = false ∧ ch.byte = b then s else takeChar ch s

end Sys2Proof.Machine
end

