-- ==== Sys2Proof/Machine/Event.lean ====
section
/-!
DEFINITION. Machine/Event.lean: half-cycle events (R13): how the blocks take one in the sender's order (log 1), the steps that come
due inside one (log 2), and the crossings, timeouts and free-run events that make them (R1 to R11).
-/

namespace Sys2Proof.Machine

/-! ## Taking an event -/

/-- The first occurrence of each item, and every hand-over. -/
def firstOnce (seen : List Taking) : List Taking → List Taking
  | [] => []
  | x :: xs => if x.isHandover = false ∧ x ∈ seen then firstOnce seen xs else x :: firstOnce (x :: seen) xs

/-- Every taking of every event once, those the sender names in its order, then the rest in the order of `allTakings` (log 1); the
hand-overs where and as often as the sender names them (log 13). -/
def fullOrder (order : List Taking) : List Taking := firstOnce [] (order ++ allTakings)

/-- A driver takes the oldest level handed to it, where one is on its way (R22, log 13). -/
def takeHandover (k : ChannelKind) (f : Channel → Nat → State → State) (c : Channel) (s : State) : State :=
  if s.active && s.kind c == k then
    match s.handovers[c] with
    | [] => s
    | level :: rest => f c level (s.setHandovers c rest)
  else s

/-- A hand-over at the channel's driver, of whichever kind it is (R77, R102). One taken after the swap finds its result taken
(R89); the two changes of heat state that this can make set state-pending once (log 33, DESIGN CHOICE). -/
def driverHandover (c : Channel) (s : State) : State :=
  match s.kind c with
  | .element => takeHandover .element (fun d level t => takeElementLevel d level (takeHanded d t)) c s
  | .gas => takeHandover .gas takeGasLevel c s
  | .unused => s

/-- One block's taking of the event (R13), or a hand-over that comes among them (R22). -/
def takeOne (x : Taking) (s : State) : State :=
  match x with
  | .listen => takeListen s
  | .silence a => takeSilence a s
  | .dwell => takeDwell s
  | .swap => takeSwap s
  | .result c => takeResult c s
  | .sample c => takeSample c s
  | .relay c => takeRelay c s
  | .flame c => takeFlame c s
  | .count c => takeCount c s
  | .presence => takePresenceCount s
  | .plan => takePlan s
  | .select => takeSelect s
  | .handover c => driverHandover c s

/-- Mark a step as due (log 2). -/
def setDue (d : Option Due) (s : State) : State := s.setEvent { s.event with due := d }

/-- Keep the takings still to come. -/
def setUntaken (xs : List Taking) (s : State) : State := s.setEvent { s.event with untaken := xs }

/-- When nothing of the event is left: a bad run of 3 makes the loss of lock due (R8: after the judgement of R6). -/
def endTaking (s : State) : State :=
  if s.event.due = none ∧ s.event.untaken = [] ∧ s.locked = true ∧ 3 ≤ s.base.badRun then setDue (some .badRunLost) s else s

/-- Take the event block by block until a step comes due; the takings after it stay (log 2). -/
def resumeTaking : List Taking → State → State
  | [], s => endTaking (setUntaken [] s)
  | x :: xs, s =>
    let t := reporting (takeOne x) s
    if t.event.due = none then resumeTaking xs t else setUntaken xs t

/-- The phase after the next half-cycle event (R13). -/
def nextPhase (s : State) : Nat := (s.base.phase + 1) % s.burst

/-- What a half-cycle event at time `t` sets before the blocks take it: the phase and the last event time (R13), a plan
computation complete (R65), a selection not started lapsed (R143), the quiet test begun with the line-busy indication as it stands
(R143, log 14), the event's own bookkeeping. The phase and the tick rate as the event hands them stay beside those in force (R12, R142). -/
def openEvent (t : Nat) (s : State) : State :=
  let p := completePlan s
  (((p.setBase
      { p.base with phase := nextPhase p, lastEvent := some t, eventPhase := nextPhase p, eventRate := p.base.tickRate }).setTx
      { p.tx with selection := if p.tx.sent.isSome then p.tx.selection else none, attempted := false }).setReceiver
      { p.receiver with heard := false, busySince := p.receiver.lineBusy }).setEvent
    { order := p.event.order, untaken := [], due := none, swapped := false, results := #v[none, none, none, none],
      startPoint := true }

/-- A half-cycle event at time `t` (R13): made in LISTEN and RUN alone (R11). -/
def halfCycleEvent (t : Nat) (s : State) : State :=
  if s.active then resumeTaking (fullOrder s.event.order) (openEvent t s) else s

/-! ## Locking and losing the mains -/

/-- The time base locks to the run band at the crossing just taken (R5, R12). -/
def lockedBase (b : TimeBase) : TimeBase :=
  let x := b.runBand.getD .f50
  { b with lock := lockOf x, band := some x, badRun := 0, freeRun := .stopped, tickRate := bandRate x }

/-- The most recent half-cycle event came less than half the nominal period before now (R5). -/
def recentEvent (b : TimeBase) : Bool :=
  match b.lastEvent with
  | none => false
  | some l => 2 * (b.now - l) < nominalPeriod (bandInForce b)

/-- The locking crossing (R5): it makes a half-cycle event unless one came less than half a period before. -/
def lockStep (s : State) : State :=
  let t := s.setBase (lockedBase s.base)
  if recentEvent t.base then t else halfCycleEvent t.base.now t

/-- The lock state on entering LOST (R9): the lock band kept, the run count cleared. -/
def lostBase (b : TimeBase) : TimeBase :=
  { b with lock := .lost, runBand := none, runLength := 0, freeRun := .stopped }

/-- When the first free-run event in LOST is due (R9): one nominal period after the last half-cycle event; where there has been
none, after the reference crossing (log 11, DEDUCED). Where early crossings lose a lock whose locking crossing made no event, R9's last
half-cycle event and its last accepted crossing differ, and the event is taken (log 27, DESIGN CHOICE). -/
def firstFreeRun (b : TimeBase) : Nat := ((b.lastEvent.or b.reference).getD b.now) + freePeriod b

/-- Entering LOST now (R9, R11, R114): every own spark goes off; in LISTEN and RUN the generator starts, with an event at once
where its first due time has passed. -/
def enterLost (s : State) : State :=
  let t := sparksOff (s.setBase (lostBase s.base))
  let period := freePeriod t.base
  let first := firstFreeRun t.base
  if t.active then
    if first ≤ t.base.now then
      halfCycleEvent t.base.now (t.setBase { t.base with freeRun := .running period (t.base.now + period) })
    else t.setBase { t.base with freeRun := .running period first }
  else t

/-! ## What makes events -/

/-- The levels, the indication and the order that come with an event (R81, R94, R133, log 1). -/
def withInputs (inp : EventInputs) (s : State) : State :=
  senseLine inp.lineBusy ((s.setPins { s.pins with sense := inp.sense }).setEvent { s.event with order := inp.order })

/-- A crossing with an interval, taken in SEEK or LOST (R2, R4): it feeds the run count and becomes the reference; the lock is due
where the run length comes to 16 (R5). -/
def seekCrossing (t interval : Nat) (s : State) : State :=
  let b := { countRun (classify interval) s.base with reference := some t }
  let u := s.setBase b
  if b.runLength = 16 then setDue (some .lock) u else u

/-- A crossing with an interval, taken in LOCK50 or LOCK60 (R6): judged, with a half-cycle event unless it is early; the loss of
lock is due where the bad run comes to 3 (R8). -/
def lockedCrossing (t interval : Nat) (s : State) : State :=
  let j := judge (bandInForce s.base) interval
  let u := s.setBase (judged j t s.base)
  endTaking (if j = .early then u else halfCycleEvent t u)

/-- A crossing at time `t` (R1, R2): the first after a reset has no interval and becomes the reference. -/
def takeCrossing (t : Nat) (s : State) : State :=
  let u := (s.setPins { s.pins with zeroCross := !s.pins.zeroCross }).setBase { s.base with now := t }
  match u.base.reference with
  | none => u.setBase { u.base with reference := some t }
  | some r => if u.locked then lockedCrossing t (t - r) u else seekCrossing t (t - r) u

/-- The timeout's moment (R7): one and a half nominal periods after the reference crossing. -/
def timeoutTime (band : Band) (reference : Nat) : Nat := reference + 3 * nominalPeriod band / 2

/-- The timeout (R7): in a locked state with a reference crossing, LOST is entered at the timeout's moment. -/
def takeTimeout (s : State) : State :=
  match s.base.reference with
  | none => s
  | some r =>
    if s.locked then enterLost (s.setBase { s.base with now := timeoutTime (bandInForce s.base) r }) else s

/-- The free-run generator's due time (R10): a half-cycle event, and the next due time one nominal period later. -/
def takeFreeRun (s : State) : State :=
  match s.base.freeRun with
  | .stopped => s
  | .running period due =>
    if s.active then
      halfCycleEvent due (s.setBase { s.base with freeRun := .running period (due + period), now := due })
    else s

/-! ## Steps that are due (log 2) -/

/-- What a due step does. -/
def dueStep (d : Due) (s : State) : State :=
  match d with
  | .lock => lockStep s
  | .badRunLost => enterLost s
  | .secondComplete c => reporting (secondStep c) s
  | .stageExpiry c => reporting (expiryStep c) s
  | .flamePresent c => reporting (flamePresentStep c) s
  | .flameAbsent c => reporting (flameAbsentStep c) s
  | .ignitionEnd c => reporting (ignitionEndStep c) s
  | .purgeEnd c => reporting (purgeEndStep c) s
  | .relightEnd c => reporting (relightEndStep c) s
  | .holdLimit => reporting holdLimitStep s
  | .departure a => departureStep a s
  | .listenEnd => enterRun s
  | .presenceDue => presenceDueStep s

/-- Go on taking the event after a due step, unless a further step is due. -/
def goOn (s : State) : State := if s.event.due = none then resumeTaking s.event.untaken s else s

/-- Carry out a due step, then go on taking the event. -/
def carryOut (d : Due) (s : State) : State := goOn (dueStep d (setDue none s))

/-- Carry out what is due, step by step, up to the step `stop` or until nothing is due. -/
def settleSteps (stop : Option Due) : Nat → State → State
  | 0, s => s
  | n + 1, s =>
    match s.event.due with
    | none => s
    | some d => if stop = some d then s else settleSteps stop n (carryOut d s)

/-- Steps enough for every event: at most three for each taking still to come, for two further events, and for what is due. -/
def settleFuel (s : State) : Nat := 3 * (s.event.untaken.length + 2 * (allTakings.length + s.event.order.length)) + 12

/-- Carry out everything that is due now (log 2). -/
def settle (s : State) : State := settleSteps none (settleFuel s) s

/-- Nothing is due: every step of the events so far has been carried out. -/
def State.atRest (s : State) : Prop := s.event.due = none

/-! ## How a command acts -/

/-- A command that is an arrival of its own: what is due is carried out first, then its effect follows (log 2). During a
supply-low hold nothing arrives at the node (R176). -/
def act (f : State → State) (s : State) : Host.Outcome State Fault Refusal :=
  .next (if s.loader.held then s else f (settle s))

/-- Nothing arrives for a while: what is due is carried out, and the line rests (R133, log 2, log 14). -/
def idle (s : State) : Host.Outcome State Fault Refusal := act lineRests s

/-- Carry out the step `d`, the due steps before it first; where it does not come due, only they are carried out (log 2, log 3). -/
def reachStep (d : Due) (s : State) : State :=
  let t := settleSteps (some d) (settleFuel s) s
  if t.event.due = some d then carryOut d t else t

/-- A command that is a due step; during a supply-low hold nothing happens (R176). -/
def actDue (d : Due) (s : State) : Host.Outcome State Fault Refusal :=
  .next (if s.loader.held then s else reachStep d s)

/-- A delivery (R139): in LISTEN or RUN and not paused, with a frame of the kind at the head of the FIFO, the Dispatcher removes
that frame and delivers it; otherwise no delivery of the kind arises (log 3, log 9). -/
def deliver (k : NoticeKind) (f : RxFrame → State → State) (s : State) : State :=
  if s.active && !s.dispatcher.paused then
    match s.dispatcher.fifo with
    | [] => s
    | fr :: rest => if fr.kind = k then f fr (s.setDispatcher { s.dispatcher with fifo := rest }) else s
  else s

end Sys2Proof.Machine
end

