-- ==== Sys2Proof/Machine/MeaningsHeat.lean ====
section
/-!
DEFINITION. Machine/MeaningsHeat.lean: the steps of the Element Drivers, the Gas Sequencers and the Spark Arbiter.
-/

namespace Sys2Proof.Machine

/-- FLAME_DEBOUNCE_PRESENT (R94, R104, R107, R108). -/
def execFlameDebouncePresent (c : Channel) (s : State) : Host.Outcome State Fault Refusal := actDue (.flamePresent c) s

/-- FLAME_DEBOUNCE_ABSENT (R94, R106). -/
def execFlameDebounceAbsent (c : Channel) (s : State) : Host.Outcome State Fault Refusal := actDue (.flameAbsent c) s

/-- IGNITION_WINDOW_END (R104). -/
def execIgnitionWindowEnd (c : Channel) (s : State) : Host.Outcome State Fault Refusal := actDue (.ignitionEnd c) s

/-- PURGE_END (R105). -/
def execPurgeEnd (c : Channel) (s : State) : Host.Outcome State Fault Refusal := actDue (.purgeEnd c) s

/-- RELIGHT_WINDOW_END (R107). -/
def execRelightWindowEnd (c : Channel) (s : State) : Host.Outcome State Fault Refusal := actDue (.relightEnd c) s

/-- HOLD_LIMIT (R100). -/
def execHoldLimit (s : State) : Host.Outcome State Fault Refusal := actDue .holdLimit s

/-- The half-cycle's start point, once (R101). -/
def takeStartPoint (busy : Bool) (s : State) : State :=
  if s.active && s.event.startPoint then
    reporting (sparkPoint busy)
      ((s.setPins { s.pins with sparkBusy := busy }).setEvent { s.event with startPoint := false })
  else s

/-- SPARK_START_POINT (R101): at the moment of the node's defer; at any other it does not arise (log 3). -/
def execSparkStartPoint (p : StartPoint) (s : State) : Host.Outcome State Fault Refusal :=
  act (fun u => if p.bits = u.defer then takeStartPoint p.busy u else u) s

/-- ELEMENT_HANDOVER (R77 to R80). -/
def execElementHandover (c : Channel) (s : State) : Host.Outcome State Fault Refusal :=
  act (reporting (takeHandover .element takeElementLevel c)) s

/-- GAS_HANDOVER (R102, R110). -/
def execGasHandover (c : Channel) (s : State) : Host.Outcome State Fault Refusal :=
  act (reporting (takeHandover .gas takeGasLevel c)) s

end Sys2Proof.Machine
end

