-- ==== Sys2Proof/Machine/MeaningsLine.lean ====
section
/-!
DEFINITION. Machine/MeaningsLine.lean: the commands of the Line Receiver and the Line Transmitter.
-/

namespace Sys2Proof.Machine

/-- FRAME_START (R142, R143): at the end of the node's defer, where a line that has been quiet since the event has its indication quiet
(R133); at any other moment it does not arise (log 3). -/
def execFrameStart (p : DeferEnd) (s : State) : Host.Outcome State Fault Refusal :=
  act (fun u => if u.active && p.bits == u.defer then deferEnd p.quiet (if p.quiet then lineRests u else u) else u) s

/-- OPENER (R135): the character C3h without framing error. -/
def execOpener (s : State) : Host.Outcome State Fault Refusal :=
  act (takeChar { byte := openerChar, framingError := false }) s

/-- FRAME_RECEIVED (R135, R137, R145): the characters of the frame under assembly. -/
def execFrameReceived (chars : List Byte) (s : State) : Host.Outcome State Fault Refusal := act (takeChars chars) s

/-- FRAMING_ERROR (R135): a character with framing error. -/
def execFramingError (byte : Byte) (s : State) : Host.Outcome State Fault Refusal :=
  act (takeChar { byte := byte, framingError := true }) s

/-- RX_GAP_TIMEOUT (R135). -/
def execRxGapTimeout (s : State) : Host.Outcome State Fault Refusal := act lineGap s

/-- RESYNC_QUIET (R135). -/
def execResyncQuiet (s : State) : Host.Outcome State Fault Refusal := act lineQuiet s

/-- TRANSMIT_ABORT (R144). -/
def execTransmitAbort (ch : LineChar) (s : State) : Host.Outcome State Fault Refusal := act (echoMismatch ch) s

end Sys2Proof.Machine
end

