-- ==== Sys2Proof/Machine/MeaningsNode.lean ====
section
/-!
DEFINITION. Machine/MeaningsNode.lean: the commands at the supply, the option memory and the halt input.
-/

namespace Sys2Proof.Machine

/-- COLD_RESET (R172): where the supply is above the level the reset needs, at power-on or at the end of a hold. -/
def execColdReset (supply : Nat) (halt : Bool) (s : State) : Host.Outcome State Fault Refusal :=
  .next (if resetSupply s < supply then coldReset halt s else s)

/-- The supply is below the level in use (R176). -/
def takeSupplyLow (supply : Nat) (s : State) : State :=
  if supply < supplyLevel s.loader.supplyCode then enterHold s else s

/-- SUPPLY_LOW (R176). -/
def execSupplyLow (supply : Nat) (s : State) : Host.Outcome State Fault Refusal := act (takeSupplyLow supply) s

/-- The end of an option read in flight (R168). -/
def takeOptionRead (t : Nat) (block : List Byte) (s : State) : State :=
  if s.loader.node = .startUp ∧ s.loader.reading = true then endOptionRead t block s else s

/-- OPTION_READ_COMPLETE (R168, R169). -/
def execOptionReadComplete (t : Nat) (block : List Byte) (s : State) : Host.Outcome State Fault Refusal :=
  act (takeOptionRead t block) s

/-- The halt assertion's effect in the node state (R33): STOP on every used channel in LISTEN and RUN, halt-pending in RUN, nothing
in START-UP and CONFIG-FAULT. -/
def haltEffect (s : State) : State :=
  let t := if s.active then reporting stopAll s else s
  if s.inRun then raiseFlag .haltAll t else t

/-- The halt input goes from inactive to asserted (R33). -/
def takeHalt (s : State) : State :=
  if s.pins.halt then s else haltEffect (s.setPins { s.pins with halt := true })

/-- HALT_ASSERTION (R33). -/
def execHaltAssertion (s : State) : Host.Outcome State Fault Refusal := act takeHalt s

/-- The halt input returns to inactive, which has no effect of its own (R33). -/
def takeHaltRelease (s : State) : State := s.setPins { s.pins with halt := false }

/-- HALT_INPUT_RELEASE (R33). -/
def execHaltInputRelease (s : State) : Host.Outcome State Fault Refusal := act takeHaltRelease s

end Sys2Proof.Machine
end

