-- ==== Sys2Proof/Machine/MeaningsPrograms.lean ====
section
/-!
DEFINITION. Machine/MeaningsPrograms.lean: the steps of the Zone Program Units and the program commands as they are delivered.
-/

namespace Sys2Proof.Machine

/-- SECOND_COMPLETE (R36, R162). -/
def execSecondComplete (c : Channel) (s : State) : Host.Outcome State Fault Refusal := actDue (.secondComplete c) s

/-- STAGE_EXPIRY (R37 to R41). -/
def execStageExpiry (c : Channel) (s : State) : Host.Outcome State Fault Refusal := actDue (.stageExpiry c) s

/-- A targeted notice whose target is the own address (R150). -/
def targetsNode (f : RxFrame) (s : State) : Bool := targetOf f.body == s.loader.options.address.val

/-- A command acts on each channel its mask names, channel 0 to channel 3 (R155). -/
def onNamed (body : List Byte) (g : Channel → State → State) (s : State) : State :=
  allChannels.foldl (fun t c => if maskNames body c then g c t else t) s

/-- A masked command for the own address (R150, R155); the others are ignored (R23). -/
def takeMasked (g : Channel → State → State) (f : RxFrame) (s : State) : State :=
  if targetsNode f s then reporting (onNamed f.body g) s else s

/-- A PROGRAM (R150, R154): for the own address and a channel of the node; the others are ignored. -/
def takeProgramNotice (f : RxFrame) (s : State) : State :=
  if targetsNode f s then
    match channelOf (readProgram f.body).channel with
    | none => s
    | some c => reporting (programOn (readProgram f.body) c) s
  else s

/-- PROGRAM (R25 to R28). -/
def execProgram (s : State) : Host.Outcome State Fault Refusal := act (deliver .program takeProgramNotice) s

/-- START (R29). -/
def execStart (s : State) : Host.Outcome State Fault Refusal := act (deliver .start (takeMasked startOn)) s

/-- HOLD (R30). -/
def execHold (s : State) : Host.Outcome State Fault Refusal := act (deliver .hold (takeMasked holdOn)) s

/-- RESUME (R31). -/
def execResume (s : State) : Host.Outcome State Fault Refusal := act (deliver .resume (takeMasked resumeOn)) s

/-- STOP (R32). -/
def execStop (s : State) : Host.Outcome State Fault Refusal := act (deliver .stop (takeMasked stopOn)) s

/-- HALT_ALL (R33, R156): no target, no mask, no refusal. -/
def execHaltAll (s : State) : Host.Outcome State Fault Refusal := act (deliver .haltAll fun _ => reporting stopAll) s

end Sys2Proof.Machine
end

