-- ==== Sys2Proof/Machine/MeaningsNotices.lean ====
section
/-!
DEFINITION. Machine/MeaningsNotices.lean: the notices between nodes, the reports and the service requests as they are delivered.
-/

namespace Sys2Proof.Machine

/-- PRESENCE (R119). -/
def execPresence (s : State) : Host.Outcome State Fault Refusal :=
  act (deliver .presence fun f => reporting (takePresence f)) s

/-- A frame whose source is the own address is taken when it is marked own (R51, log 18). -/
def fromSelfUnmarked (f : RxFrame) (s : State) : Bool := s.isOwn f.source && !f.own

/-- A delivered CLAIM (R49, R51): ignored from 8..15 and with a field out of range; else it sets the entry of its key, with the
standing release rule where an own entry is inserted or changed (R85). -/
def takeClaim (f : RxFrame) (s : State) : State :=
  let n := readClaim f.body
  let x : ClaimContent := { current := n.current, slots := n.slots, cls := n.cls }
  match keyOf f.source n.channel with
  | none => s
  | some k =>
    if fromSelfUnmarked f s || !claimInRange s.burst x then s
    else
      let t := setTable (putEntry k x s.plan.table) s
      if s.isOwn f.source = true ∧ findEntry k t.plan.table ≠ findEntry k s.plan.table then standingRelease k.channel t
      else t

/-- CLAIM (R49). -/
def execClaim (s : State) : Host.Outcome State Fault Refusal := act (deliver .claim takeClaim) s

/-- A delivered RELEASE (R50, R51). -/
def takeRelease (f : RxFrame) (s : State) : State :=
  match keyOf f.source (charAt f.body 0).toNat with
  | none => s
  | some k => if fromSelfUnmarked f s then s else setTable (removeEntry k s.plan.table) s

/-- RELEASE (R50). -/
def execRelease (s : State) : Host.Outcome State Fault Refusal := act (deliver .release takeRelease) s

/-- A delivered SPARK (R97): the key is appended if absent; an own one clears the free-outstanding indication and is tested by the
standing rule (R112). -/
def takeSpark (f : RxFrame) (s : State) : State :=
  match keyOf f.source (charAt f.body 0).toNat with
  | none => s
  | some k => if s.isOwn f.source then standingFree k.channel (appendKey k (clearOutstanding k.channel s)) else appendKey k s

/-- SPARK (R97). -/
def execSpark (s : State) : Host.Outcome State Fault Refusal := act (deliver .spark takeSpark) s

/-- A delivered SPARK-FREE (R97): the key is removed wherever it stands; an own one clears the free-outstanding indication and has no
effect on the channel's heat state (R111). -/
def takeSparkFree (f : RxFrame) (s : State) : State :=
  match keyOf f.source (charAt f.body 0).toNat with
  | none => s
  | some k => if s.isOwn f.source then removeKey k (clearOutstanding k.channel s) else removeKey k s

/-- SPARK_FREE (R97). -/
def execSparkFree (s : State) : Host.Outcome State Fault Refusal := act (deliver .sparkFree takeSparkFree) s

/-- A delivered QUERY (R158, R167). -/
def takeQuery (f : RxFrame) (s : State) : State := if targetsNode f s then raiseFlag .counts s else s

/-- QUERY (R167). -/
def execQuery (s : State) : Host.Outcome State Fault Refusal := act (deliver .query takeQuery) s

/-- A RESTART delivered at time `t` (R159). -/
def takeRestart (t : Nat) (f : RxFrame) (s : State) : State := if targetsNode f s then warmReset t s else s

/-- RESTART (R159, R173). -/
def execRestart (t : Nat) (s : State) : Host.Outcome State Fault Refusal := act (deliver .restart (takeRestart t)) s

/-- STATE (R149): removed from the FIFO and acted on by no block. -/
def execState (s : State) : Host.Outcome State Fault Refusal := act (deliver .state fun _ u => u) s

/-- COUNTS (R149): removed from the FIFO and acted on by no block. -/
def execCounts (s : State) : Host.Outcome State Fault Refusal := act (deliver .counts fun _ u => u) s

end Sys2Proof.Machine
end

