-- ==== Sys2Proof/Machine/MeaningsTime.lean ====
section
/-!
DEFINITION. Machine/MeaningsTime.lean: the commands of the time base, and the burst-start and plan steps of the Load Plan, the Peer
Table and the Option Loader.
-/

namespace Sys2Proof.Machine

/-- CROSSING (R1 to R6). -/
def execCrossing (t : Nat) (inp : EventInputs) (s : State) : Host.Outcome State Fault Refusal :=
  act (fun u => takeCrossing t (withInputs inp u)) s

/-- LOCK (R5). -/
def execLock (s : State) : Host.Outcome State Fault Refusal := actDue .lock s

/-- BAD_RUN_LOST (R8, R9). -/
def execBadRunLost (s : State) : Host.Outcome State Fault Refusal := actDue .badRunLost s

/-- LOCK_TIMEOUT (R7, R9). -/
def execLockTimeout (inp : EventInputs) (s : State) : Host.Outcome State Fault Refusal :=
  act (fun u => takeTimeout (withInputs inp u)) s

/-- FREE_RUN_DUE (R10). -/
def execFreeRunDue (inp : EventInputs) (s : State) : Host.Outcome State Fault Refusal :=
  act (fun u => takeFreeRun (withInputs inp u)) s

/-- PLAN_COMPUTATION_COMPLETE (R65). -/
def execPlanComputationComplete (s : State) : Host.Outcome State Fault Refusal := act completePlan s

/-- SILENCE_DEPARTURE (R121, R122). -/
def execSilenceDeparture (a : Station) (s : State) : Host.Outcome State Fault Refusal := actDue (.departure a) s

/-- LISTEN_COUNT_END (R174). -/
def execListenCountEnd (s : State) : Host.Outcome State Fault Refusal := actDue .listenEnd s

/-- PRESENCE_COUNT_DUE (R128). -/
def execPresenceCountDue (s : State) : Host.Outcome State Fault Refusal := actDue .presenceDue s

end Sys2Proof.Machine
end

