-- ==== Sys2Proof/Machine/Dispatch.lean ====
section
/-!
DEFINITION. Machine/Dispatch.lean: one arm for each command.
-/

namespace Sys2Proof.Machine

def exec (i : Instr) (s : State) : Host.Outcome State Fault Refusal :=
  match i with
  | .coldReset supply halt => Sys2Proof.Machine.execColdReset supply halt s
  | .supplyLow supply => Sys2Proof.Machine.execSupplyLow supply s
  | .optionReadComplete t block => Sys2Proof.Machine.execOptionReadComplete t block s
  | .crossing t inp => Sys2Proof.Machine.execCrossing t inp s
  | .lock => Sys2Proof.Machine.execLock s
  | .badRunLost => Sys2Proof.Machine.execBadRunLost s
  | .lockTimeout inp => Sys2Proof.Machine.execLockTimeout inp s
  | .freeRunDue inp => Sys2Proof.Machine.execFreeRunDue inp s
  | .planComputationComplete => Sys2Proof.Machine.execPlanComputationComplete s
  | .secondComplete c => Sys2Proof.Machine.execSecondComplete c s
  | .stageExpiry c => Sys2Proof.Machine.execStageExpiry c s
  | .flameDebouncePresent c => Sys2Proof.Machine.execFlameDebouncePresent c s
  | .flameDebounceAbsent c => Sys2Proof.Machine.execFlameDebounceAbsent c s
  | .ignitionWindowEnd c => Sys2Proof.Machine.execIgnitionWindowEnd c s
  | .purgeEnd c => Sys2Proof.Machine.execPurgeEnd c s
  | .relightWindowEnd c => Sys2Proof.Machine.execRelightWindowEnd c s
  | .holdLimit => Sys2Proof.Machine.execHoldLimit s
  | .sparkStartPoint p => Sys2Proof.Machine.execSparkStartPoint p s
  | .silenceDeparture a => Sys2Proof.Machine.execSilenceDeparture a s
  | .listenCountEnd => Sys2Proof.Machine.execListenCountEnd s
  | .presenceCountDue => Sys2Proof.Machine.execPresenceCountDue s
  | .frameStart p => Sys2Proof.Machine.execFrameStart p s
  | .frameReceived chars => Sys2Proof.Machine.execFrameReceived chars s
  | .rxGapTimeout => Sys2Proof.Machine.execRxGapTimeout s
  | .resyncQuiet => Sys2Proof.Machine.execResyncQuiet s
  | .transmitAbort ch => Sys2Proof.Machine.execTransmitAbort ch s
  | .presence => Sys2Proof.Machine.execPresence s
  | .claim => Sys2Proof.Machine.execClaim s
  | .release => Sys2Proof.Machine.execRelease s
  | .spark => Sys2Proof.Machine.execSpark s
  | .sparkFree => Sys2Proof.Machine.execSparkFree s
  | .program => Sys2Proof.Machine.execProgram s
  | .start => Sys2Proof.Machine.execStart s
  | .hold => Sys2Proof.Machine.execHold s
  | .resume => Sys2Proof.Machine.execResume s
  | .stop => Sys2Proof.Machine.execStop s
  | .haltAll => Sys2Proof.Machine.execHaltAll s
  | .query => Sys2Proof.Machine.execQuery s
  | .restart t => Sys2Proof.Machine.execRestart t s
  | .state => Sys2Proof.Machine.execState s
  | .counts => Sys2Proof.Machine.execCounts s
  | .haltAssertion => Sys2Proof.Machine.execHaltAssertion s
  | .haltInputRelease => Sys2Proof.Machine.execHaltInputRelease s
  | .elementHandover c => Sys2Proof.Machine.execElementHandover c s
  | .gasHandover c => Sys2Proof.Machine.execGasHandover c s
  | .opener => Sys2Proof.Machine.execOpener s
  | .framingError byte => Sys2Proof.Machine.execFramingError byte s

end Sys2Proof.Machine
end

