-- ==== Sys2Proof/Safety.lean ====
section
/-!
DEFINITION. Safety.lean: what a safe state of the node is, in the terms the statements use: the laws the spec states about the
node's state as a whole, each as a predicate of a state.
-/

namespace Sys2Proof.Machine

/-! ## Vocabulary of the statements -/

/-- Every event so far has been taken to its end: nothing is due and no taking is left. -/
abbrev State.quiescent (s : State) : Prop := s.event.due = none ∧ s.event.untaken = []

/-- A command finds the node able to take it: no supply-low hold, and every event so far taken to its end. -/
abbrev State.ready (s : State) : Prop := s.loader.held = false ∧ s.quiescent

/-- The step `d` is the one that is due, and the node is not held. -/
abbrev State.dueNow (d : Due) (s : State) : Prop := s.loader.held = false ∧ s.event.due = some d

/-- The Dispatcher's next delivery is the frame `f` of kind `k`, with `rest` behind it (R139). -/
abbrev State.delivers (k : NoticeKind) (f : RxFrame) (rest : List RxFrame) (s : State) : Prop :=
  s.ready ∧ s.active = true ∧ s.dispatcher.paused = false ∧ s.dispatcher.fifo = f :: rest ∧ f.kind = k

/-- The pending flag of a request is set (R140). -/
def State.asked (s : State) (r : Request) : Bool := (flagOf s.tx r).isSet

/-- The receiver after a moment of the time base at which its line-busy indication is `busy` (R133, log 14); an idle receiver takes
none. -/
def State.lineAt (s : State) (busy : Bool) : LineReceiver :=
  if s.active then { s.receiver with lineBusy := busy, busySince := s.receiver.busySince || busy } else s.receiver

/-- The receiver after a character that leaves its line-busy indication at `busy` (R133, log 14). -/
def LineReceiver.hearing (r : LineReceiver) (busy : Bool) : LineReceiver :=
  { r with lineBusy := busy, heard := true, busySince := r.busySince || r.heard || busy }

/-- The state after the frame at the head of the FIFO has been removed (R139). -/
def State.popped (s : State) (rest : List RxFrame) : State := { s with dispatcher := { s.dispatcher with fifo := rest } }

/-- A record with a refusal on it (R24, R160). -/
def refusedRecord (p : Program) : Program := { p with refused := true, refusalMark := p.refusalMark + 1 }

/-- The levels on their way to a driver after a record has changed from `old` to `new` (R22): a level that stays is not handed. -/
def handedOn (old new : Program) (levels : List Nat) : List Nat :=
  if effectiveLevel new = effectiveLevel old then levels else levels ++ [effectiveLevel new]

/-- The record a STOP leaves (R32). -/
def stopRecord (p : Program) : Program := if p.state = .empty then p else { p with state := .ended, alert := false }

/-- A PROGRAM whose fields are in range for a channel of kind `k` and which carries the stage `st` (R21, R25). -/
abbrev carriesStage (k : ChannelKind) (n : ProgramNotice) (st : Stage) : Prop :=
  n.basis = some st.basis ∧ n.action = some st.action ∧ n.level = st.level ∧ n.duration = st.duration ∧
  n.index < n.count ∧ 1 ≤ n.count ∧ n.count ≤ 6 ∧ n.limit ≤ 15 ∧
  (k = .element → st.level ≤ 16) ∧ (k = .gas → st.level ≤ 9) ∧ st.duration ≤ 65534 ∧
  ¬ (st.level = 0 ∧ st.basis = .heat)

/-- A PROGRAM that R25 refuses in every program state, on a channel of kind `k`. -/
abbrev carriesFault (k : ChannelKind) (n : ProgramNotice) : Prop :=
  n.count ≤ n.index ∨ n.count = 0 ∨ 6 < n.count ∨ 15 < n.limit ∨ (k = .element ∧ 16 < n.level) ∨ (k = .gas ∧ 9 < n.level) ∨
  n.duration = 65535 ∨ (n.level = 0 ∧ n.basis = some .heat) ∨ n.basis = none ∨ n.action = none

/-- The record of a PROGRAM stored at its place (R26, R27), with the stages `stages`. -/
def storedRecord (n : ProgramNotice) (stages : Vector (Option Stage) 6) (p : Program) : Program :=
  { p with stageCount := n.count, repeatLimit := n.limit, stages := stages }

/-- The stages after a PROGRAM (R26, R27): `st` at its index, none from the count on, the others kept. -/
def stagesStored (n : ProgramNotice) (st : Stage) (old new : Vector (Option Stage) 6) : Prop :=
  ∀ k : Fin 6, new[k] = if n.count ≤ k.val then none else if k.val = n.index then some st else old[k]

/-- A peer node (R118): an address 0..7 other than the own. -/
abbrev State.peerNode (s : State) (a : Station) : Prop := a.val < 8 ∧ a.val ≠ s.loader.options.address.val

/-- A peer node that is present (R118). -/
abbrev State.nodePresent (s : State) (a : Station) : Prop := s.peerNode a ∧ s.peers.records[a].present = true

/-- The derived values agree with the records (R120, R124, R126, R127, R56). -/
def State.derivedFit (s : State) : Prop :=
  (s.peers.bMismatch = true ↔ ∃ a, s.nodePresent a ∧ s.peers.records[a].bCode ≠ some s.loader.options.bCode) ∧
  (s.peers.budgetDiffers = true ↔ ∃ a, s.nodePresent a ∧ s.peers.records[a].budget ≠ some s.loader.options.budget) ∧
  (∀ a, s.peers.phaseSource = some a ↔
    s.nodePresent a ∧ (∀ b, s.nodePresent b → a.val ≤ b.val) ∧ a.val < s.loader.options.address.val ∧
    s.peers.records[a].bCode = some s.loader.options.bCode) ∧
  (s.peers.bMismatch = true → s.plan.budget = 0) ∧
  (s.peers.bMismatch = false →
    s.plan.budget ≤ s.loader.options.budget ∧
    (∀ a b, s.nodePresent a → s.peers.records[a].budget = some b → s.plan.budget ≤ b) ∧
    (s.plan.budget = s.loader.options.budget ∨
      ∃ a, s.nodePresent a ∧ s.peers.records[a].budget = some s.plan.budget))

/-- The order of a request's kind in the selection (R141). -/
def requestRank : Request → Nat
  | .haltAll => 0
  | .ofChannel .sparkFree _ => 1
  | .ofChannel .release _ => 2
  | .ofChannel .spark _ => 3
  | .ofChannel .claim _ => 4
  | .presence => 5
  | .ofChannel .state _ => 6
  | .counts => 7

/-- How far a channel stands after a kind's rotation pointer, 0 for the one just after it (R141). -/
def rotationDistance (pointer c : Channel) : Nat := (c.val + 7 - pointer.val) % 4

/-- Between two states of the Transmitter at most the flags of the requests in `changed` differ: every other flag with its mark, the
rotation pointers, the selection and the frame in flight are as before (R140). -/
def onlyFlags (changed : Request → Prop) (old new : Transmitter) : Prop :=
  (∀ r, ¬ changed r → flagOf new r = flagOf old r) ∧
  (∀ k, (channelFlags new k).pointer = (channelFlags old k).pointer) ∧
  new.selection = old.selection ∧ new.sent = old.sent ∧ new.attempted = old.attempted

/-- The command that carries out a due step (log 2). -/
def stepCommand : Due → Instr
  | .lock => .lock
  | .badRunLost => .badRunLost
  | .secondComplete c => .secondComplete c
  | .stageExpiry c => .stageExpiry c
  | .flamePresent c => .flameDebouncePresent c
  | .flameAbsent c => .flameDebounceAbsent c
  | .ignitionEnd c => .ignitionWindowEnd c
  | .purgeEnd c => .purgeEnd c
  | .relightEnd c => .relightWindowEnd c
  | .holdLimit => .holdLimit
  | .departure a => .silenceDeparture a
  | .listenEnd => .listenCountEnd
  | .presenceDue => .presenceCountDue

/-! ## Laws of a state as a whole -/

/-- R164: every diagnostic counter lies in 0..255. -/
def State.countersBounded (s : State) : Prop :=
  s.counters.checkErrors ≤ 255 ∧ s.counters.collisions ≤ 255 ∧ s.counters.fifoOverflows ≤ 255 ∧
  s.counters.phaseAdjusts ≤ 255 ∧ s.counters.sheds ≤ 255 ∧ s.counters.ignitionFails ≤ 255 ∧
  s.counters.flameLosses ≤ 255 ∧ s.counters.sparkConflicts ≤ 255

/-- R138: the receive FIFO holds at most 4 frames. -/
def State.fifoBounded (s : State) : Prop := s.dispatcher.fifo.length ≤ 4

/-- R46, R47: the claim table is in key order, strictly, and no two entries share a key. -/
def State.tableOrdered (s : State) : Prop :=
  s.plan.table.Pairwise (fun a b => entryBefore a b = true) ∧ (s.plan.table.map ClaimEntry.key).Nodup

/-- R96: the spark queue holds at most one entry for any key. -/
def State.queueUnique (s : State) : Prop := s.arbiter.queue.Nodup

/-- The heat states in which a gas valve is open (R93). -/
def valveState : GasHeat → Bool
  | .ignite | .proven | .relightWait | .relightSpark => true
  | .off | .waitSpark | .purge | .lockout => false

/-- R93: a gas valve is open only while its channel is in IGNITE, PROVEN, RELIGHT-WAIT or RELIGHT-SPARK and the node is in RUN. -/
def State.valvesGuarded (s : State) : Prop :=
  ∀ c : Channel, s.gas[c].valve = true → valveState s.gas[c].heat = true ∧ s.inRun = true

/-- R101: a spark is on only for a channel in IGNITE or RELIGHT-SPARK, and in RUN. -/
def State.sparksGuarded (s : State) : Prop :=
  ∀ c : Channel, s.gas[c].spark = true →
    (s.gas[c].heat = .ignite ∨ s.gas[c].heat = .relightSpark) ∧ s.inRun = true

/-- R86, R90: an element relay is closed only while its channel is ADMITTED and the node is in RUN. -/
def State.relaysGuarded (s : State) : Prop :=
  ∀ c : Channel, s.elements[c].relay = true → s.elements[c].heat = .admitted ∧ s.inRun = true

/-- R92, R95, R103 to R107: a countdown runs in IGNITE, PURGE, RELIGHT-WAIT and RELIGHT-SPARK alone, and is of the kind of the heat
state. -/
def State.countdownsFit (s : State) : Prop :=
  ∀ c : Channel, (s.gas[c].countdown).map Countdown.window =
    match s.gas[c].heat with
    | .ignite => some .ignition
    | .purge => some .purge
    | .relightWait | .relightSpark => some .relight
    | .off | .waitSpark | .proven | .lockout => none

/-- R12: the tick rate is that of the lock state, in LOST that of the kept lock band; SEEK keeps no band. -/
def State.rateFits (s : State) : Prop :=
  (s.base.lock = .seek → s.base.band = none ∧ s.base.tickRate = 100) ∧
  (s.base.lock = .lock50 → s.base.band = some .f50 ∧ s.base.tickRate = 100) ∧
  (s.base.lock = .lock60 → s.base.band = some .f60 ∧ s.base.tickRate = 120) ∧
  (s.base.lock = .lost → s.base.tickRate = if s.base.band = some .f60 then 120 else 100)

/-- R5, R10, R11: the free-run generator stands still while the time base is locked, and in START-UP and CONFIG-FAULT. -/
def State.generatorFits (s : State) : Prop :=
  s.base.freeRun ≠ .stopped → s.locked = false ∧ s.loader.node ≠ .startUp ∧ s.loader.node ≠ .configFault

/-- R13, R19: the phase lies in 0..B-1, and in START-UP it is 0. -/
def State.phaseFits (s : State) : Prop := s.base.phase < s.burst ∧ (s.loader.node = .startUp → s.base.phase = 0)

/-- A step is due, or no taking is left (log 2). -/
def State.eventFits (s : State) : Prop := s.event.due = none → s.event.untaken = []

/-- R83: at most one of claim-pending and release-pending is set for a channel. -/
def State.wishesFit (s : State) : Prop :=
  ∀ c : Channel, (s.asked (.ofChannel .claim c) && s.asked (.ofChannel .release c)) = false

/-- A stage that is valid on a channel of kind `k` (R21). -/
def stageFits (k : ChannelKind) (st : Stage) : Prop :=
  (k = .element → st.level ≤ 16) ∧ (k = .gas → st.level ≤ 9) ∧ st.duration ≤ 65534 ∧ ¬ (st.level = 0 ∧ st.basis = .heat)

/-- The relations and ranges of a program record of a channel of kind `k` (R20, R21): the current stage index below the stage count,
repeats done at most the repeat limit, elapsed at most a duration that is not 0, every defined stage valid. -/
def recordFits (k : ChannelKind) (p : Program) : Prop :=
  p.index < p.stageCount ∧ p.stageCount ≤ 6 ∧ p.repeatsDone ≤ p.repeatLimit ∧ p.repeatLimit ≤ 15 ∧ p.elapsed ≤ 65534 ∧
  (∀ st, currentStage p = some st → st.duration ≠ 0 → p.elapsed ≤ st.duration) ∧
  ∀ i : Fin 6, ∀ st, p.stages[i] = some st → stageFits k st

/-- A program that is timing its stage or held in it is short of a duration that is not 0 (R37, R41). -/
def timeLeft (p : Program) : Prop :=
  p.state = .running ∨ p.state = .held → p.alert = false → ∀ st, currentStage p = some st → st.duration ≠ 0 →
    p.elapsed < st.duration

/-- R20, R21, R36, R37: every program record fits its channel, and has time left unless its expiry is due; a second that is complete has
been counted by a stage with time left; no stage is stored before the options are known; a second is at most 120 events. -/
def State.recordsFit (s : State) : Prop :=
  (∀ c : Channel, recordFits (s.kind c) s.programs[c]) ∧
  (∀ c : Channel, timeLeft s.programs[c] ∨ s.event.due = some (.stageExpiry c)) ∧
  (∀ c : Channel, s.event.due = some (.secondComplete c) →
    s.programs[c].state = .running ∧ s.programs[c].alert = false ∧ s.programs[c].elapsed < 65534) ∧
  (∀ c : Channel, s.programs[c].subSecond < 120 ∨ s.event.due = some (.secondComplete c)) ∧
  (s.loader.node = .startUp → ∀ c : Channel, ∀ i : Fin 6, s.programs[c].stages[i] = none) ∧
  s.base.tickRate ≤ 120 ∧ s.base.eventRate ≤ 120

/-- A safe state: no output is on outside the states the spec allows it in. -/
def State.outputsSafe (s : State) : Prop := s.valvesGuarded ∧ s.sparksGuarded ∧ s.relaysGuarded

end Sys2Proof.Machine
end

