-- ==== Sys2Proof/Certificates/Slice0/Obligations.lean ====
section
/-!
DEFINITION. Certificates/Slice0/Obligations.lean: the statements for the provers, file by file of the spec. `ready` states are those in
which every event so far has been taken to its end (Safety.lean); a step that has come due is stated with `dueNow`. The command of a
due step makes that step and then goes on with the takings left of the event: its statement gives the state `u` the step leaves and
says that the command answers `goOn u`, which O19 states. The form of the commands is the model's: a step that is due is a command of
its own (log 2), a delivery takes the frame at the head of the FIFO (log 9), a hand-over the oldest level on its way (log 13).
-/

open Sys2Proof Sys2Proof.Machine

/-! ## The machine -/

/-- Every command is taken from the front of the queue: the step is the command's meaning on the state with the queue's rest (the
model's own queue). -/
def Obligations.StepTakesTheCommandInFront : Prop :=
  ∀ (c : Instr) (rest : List Instr) (s : State), s.pending = c :: rest → step s = exec c (s.setPending rest)

/-- With no command waiting the node carries out what is due and else idles (the model's choice, log 2), and the line rests: the
line-busy indication falls (R133: nothing for more than 2 bit times, log 14). A held node changes nothing. What is due is carried out
step by step, each as its own command does, until nothing is due (`settle`). An arrival finds it carried out before it, and so does the
command of a step that is not the one due, up to that step; where its step is not due at all it changes nothing (log 2, log 3). -/
def Obligations.EmptyQueueStepCarriesOutWhatIsDue : Prop :=
  (∀ s : State, s.pending = [] →
    (s.loader.held = true → step s = .next s) ∧
    (s.ready → step s = .next { s with receiver := { s.receiver with lineBusy := s.receiver.lineBusy && !s.active } }) ∧
    (s.loader.held = false → ∃ t, step s = .next t ∧ t = lineRests (settle s) ∧ t.event.due = none)) ∧
  (∀ s : State, s.event.due = none → settle s = s) ∧
  (∀ (d : Due) (s t : State), s.dueNow d → exec (stepCommand d) s = .next t → settle s = settle t) ∧
  (∀ (c : Instr) (s : State), s.loader.held = false → (∀ d, c ≠ stepCommand d) → (∀ w b, c ≠ .coldReset w b) →
    exec c s = exec c (settle s)) ∧
  (∀ (d e : Due) (s t : State), s.dueNow e → e ≠ d → exec (stepCommand e) s = .next t →
    exec (stepCommand d) s = exec (stepCommand d) t) ∧
  ∀ (d : Due) (s : State), s.loader.held = false → s.event.due = none → exec (stepCommand d) s = .next s

/-- Every command has a next state, in every state, and leaves the commands behind it in the queue (the model's own queue). -/
def Obligations.EveryCommandCompletesAndLeavesTheQueue : Prop :=
  ∀ (c : Instr) (s : State), ∃ t, exec c s = .next t ∧ t.pending = s.pending

/-! ## Resets, options, supply (chapters 10 and 11) -/

/-- R176, in every node state: the four levels, the hold and what it turns off, what a held node takes, and the end of the hold at the
recovery margin. Supplies are in millivolts. -/
def Obligations.SupplyLowHoldsTheNode : Prop :=
  ∀ (v : Nat) (h : Bool) (s : State),
    (s.ready → 2600 + 200 * s.loader.supplyCode ≤ v → exec (.supplyLow v) s = .next s) ∧
    (s.ready → v < 2600 + 200 * s.loader.supplyCode → ∃ t, exec (.supplyLow v) s = .next t ∧
      t = { s with elements := t.elements, gas := t.gas, plan := t.plan, tx := t.tx, loader := t.loader } ∧
      t.loader = { s.loader with held := true, reading := false } ∧
      (∀ c : Channel, t.elements[c] = { s.elements[c] with relay := false }) ∧
      (∀ c : Channel, t.gas[c] = { s.gas[c] with valve := false, spark := false }) ∧
      t.sparkEnable = false ∧ t.lineDriven = false ∧ t.tx = { s.tx with selection := none, sent := none } ∧
      t.plan = { s.plan with planning := none, computed := s.plan.computed && s.plan.planning.isNone }) ∧
    (s.loader.held = true → ∀ c, (∀ w b, c ≠ .coldReset w b) → exec c s = .next s) ∧
    (s.loader.held = true → v ≤ 2700 + 200 * s.loader.supplyCode → exec (.coldReset v h) s = .next s) ∧
    (s.loader.held = true → 2700 + 200 * s.loader.supplyCode < v → ∃ t, exec (.coldReset v h) s = .next t ∧
      t.loader.held = false ∧ t.loader.supplyCode = 0 ∧ t.loader.node = .startUp)

/-- A cold reset gives every block its reset value, with the halt input at its level then (R33); the input levels and the waiting
commands are the outside's. That the command acts on a node that is not held, from code 0's level on, is log 23. -/
def Obligations.ColdResetClearsEverything : Prop :=
  ∀ (v : Nat) (h : Bool) (s : State),
    ((if s.loader.held then 2600 + 200 * s.loader.supplyCode else 2600) + 100 < v →
      exec (.coldReset v h) s =
        .next { State.reset with pins := { s.pins with halt := h }, pending := s.pending }) ∧
    (v ≤ (if s.loader.held then 2600 + 200 * s.loader.supplyCode else 2600) + 100 → exec (.coldReset v h) s = .next s)

/-- The values the spec gives the blocks after a cold reset (R19, R20, R45, R60, R76, R92, R96, R100, R118, R135, R138 to R140,
R163, R164, R172). The phase and the rate of the last event, of which there is none yet, are the model's (log 7), and so is the code
latched on the step lines at power-on (log 22). -/
def Obligations.ResetGivesEveryBlockItsValue : Prop :=
  let s := State.reset
  (s.base.lock = .seek ∧ s.base.band = none ∧ s.base.reference = none ∧ s.base.runBand = none ∧ s.base.runLength = 0 ∧
    s.base.badRun = 0 ∧ s.base.freeRun = .stopped ∧ s.base.lastEvent = none ∧ s.base.phase = 0 ∧ s.base.tickRate = 100 ∧
    s.base.eventPhase = 0 ∧ s.base.eventRate = 100) ∧
  (∀ c : Channel, s.programs[c] =
    { state := .empty, stageCount := 1, stages := Vector.replicate 6 none, repeatLimit := 0, index := 0, repeatsDone := 0,
      elapsed := 0, subSecond := 0, alert := false, refused := false, refusalMark := 0, fault := .none }) ∧
  (s.plan.table = [] ∧ s.plan.current = [] ∧ s.plan.next = [] ∧ s.plan.computed = false ∧ s.plan.planning = none) ∧
  (∀ c : Channel, s.elements[c] = { heat := .off, level := 0, claim := none, demand := true, relay := false }) ∧
  (∀ c : Channel, s.gas[c] =
    { heat := .off, level := 0, attempts := 0, flame := false, run := 0, countdown := none, spark := false, stray := false,
      valve := false, step := 1, latched := 1 }) ∧
  (s.arbiter.queue = [] ∧ s.arbiter.dwell = 0 ∧ ∀ c : Channel, s.arbiter.freeOutstanding[c] = false) ∧
  (∀ a : Station, s.peers.records[a] =
    { present := false, countdown := 0, budget := none, bCode := none, interval := none }) ∧
  (s.peers.budgetDiffers = false ∧ s.peers.bMismatch = false ∧ s.peers.phaseSource = none ∧ s.peers.presenceCount = 0) ∧
  (s.receiver.state = .hunt ∧ s.receiver.lineBusy = false ∧ s.dispatcher.fifo = [] ∧ s.dispatcher.paused = false) ∧
  (∀ r : Request, flagOf s.tx r = { isSet := false, mark := 0 }) ∧ (∀ k, (channelFlags s.tx k).pointer = 3) ∧
  s.tx.selection = none ∧
  s.counters =
    { checkErrors := 0, collisions := 0, fifoOverflows := 0, phaseAdjusts := 0, sheds := 0, ignitionFails := 0
      flameLosses := 0, sparkConflicts := 0 } ∧
  (s.loader.node = .startUp ∧ s.loader.held = false ∧ s.loader.reading = true ∧ s.loader.listenCount = 0 ∧
    s.loader.supplyCode = 0)

/-- The laws that every step keeps (O18, O33, O51) hold after a cold reset, and two predicates more that no statement says every step
keeps: `ready`, and the agreement of the derived values with the records, which holds of the option values and the budget that log 7
gives before the option read has passed (DESIGN CHOICE, unsafe). -/
def Obligations.ResetStateMeetsTheLaws : Prop :=
  (State.reset.countersBounded ∧ State.reset.fifoBounded ∧ State.reset.tableOrdered ∧ State.reset.queueUnique ∧
    State.reset.outputsSafe ∧ State.reset.countdownsFit ∧ State.reset.rateFits ∧ State.reset.generatorFits ∧
    State.reset.phaseFits ∧ State.reset.eventFits ∧ State.reset.wishesFit ∧ State.reset.recordsFit) ∧
  State.reset.ready ∧ State.reset.derivedFit

/-- A RESTART for the own address makes a warm reset at its delivery, for another it is only removed (R150, R159, R173, R174):
every block at its reset value but for the options, the supply level in use, the counters and the codes that the step lines keep
latched (R171, log 32); LISTEN at once, the free-run generator with its first event 10 ms (60000 units, log 4) later, the effective
budget the option budget. -/
def Obligations.RestartMakesAWarmReset : Prop :=
  ∀ (t : Nat) (f : RxFrame) (rest : List RxFrame) (s : State), s.delivers .restart f rest →
    (targetOf f.body ≠ s.loader.options.address.val → exec (.restart t) s = .next (s.popped rest)) ∧
    (targetOf f.body = s.loader.options.address.val → exec (.restart t) s = .next
      { State.reset with
        base := { State.reset.base with freeRun := .running 60000 (t + 60000), now := t }
        gas := s.gas.map fun g => { GasSequencer.reset with latched := g.latched }
        plan := { State.reset.plan with budget := s.loader.options.budget }
        counters := s.counters
        loader := { State.reset.loader with
          node := .listen, reading := false, options := s.loader.options, supplyCode := s.loader.supplyCode }
        pins := s.pins
        pending := s.pending })

/-- The end of the option read in START-UP (R168, R169, R174, R175): a block that passes takes effect together and the node enters
LISTEN, with the free-run generator started unless the time base is locked, its first event a nominal period later (60000 units, or
50000 in the LOST of a 60 Hz lock, by log 4's reading of 8.333 ms); a block that fails takes the node to CONFIG-FAULT with the outputs
off and everything else kept. No supply is tested as the level in use changes (log 35, DESIGN CHOICE). Outside a read the command
changes nothing (log 3). -/
def Obligations.OptionReadEndsInListenOrConfigFault : Prop :=
  ∀ (m : Nat) (block : List Byte) (s : State), s.ready →
    (¬ (s.loader.node = .startUp ∧ s.loader.reading = true) → exec (.optionReadComplete m block) s = .next s) ∧
    (s.loader.node = .startUp → s.loader.reading = true → blockPasses block = true →
      ∃ t, exec (.optionReadComplete m block) s = .next t ∧
        t = { s with base := t.base, plan := t.plan, receiver := t.receiver, loader := t.loader } ∧
        t.loader = { s.loader with
          node := .listen, reading := false, listenCount := 0, options := readOptions block,
          supplyCode := (readOptions block).supplyCode } ∧
        t.plan = { s.plan with budget := (readOptions block).budget } ∧
        t.receiver = { s.receiver with state := .hunt, taken := [], lineBusy := false } ∧
        t.base = { s.base with now := m, freeRun := t.base.freeRun } ∧
        (s.locked = true → t.base.freeRun = .stopped) ∧
        (s.base.lock = .seek → t.base.freeRun = .running 60000 (m + 60000)) ∧
        (s.base.lock = .lost → s.base.band = some .f50 → t.base.freeRun = .running 60000 (m + 60000)) ∧
        (s.base.lock = .lost → s.base.band = some .f60 → t.base.freeRun = .running 50000 (m + 50000))) ∧
    (s.loader.node = .startUp → s.loader.reading = true → blockPasses block = false →
      ∃ t, exec (.optionReadComplete m block) s = .next t ∧
        t = { s with
          base := t.base, elements := t.elements, gas := t.gas, plan := t.plan, receiver := t.receiver, tx := t.tx
          loader := t.loader } ∧
        t.loader = { s.loader with node := .configFault, reading := false } ∧
        t.base = { s.base with now := m, freeRun := .stopped } ∧
        (∀ c : Channel, t.elements[c] = { s.elements[c] with relay := false }) ∧
        (∀ c : Channel, t.gas[c] = { s.gas[c] with valve := false, spark := false }) ∧
        t.receiver = { s.receiver with state := .hunt, taken := [] } ∧
        t.tx = { s.tx with selection := none, sent := none } ∧
        t.plan = { s.plan with planning := none, computed := s.plan.computed && s.plan.planning.isNone })

/-- The tests of the option check on a block of seventeen bytes (R169), and the fields they read (section 11.2), the B code for a
burst of 32, 64 or 128 half-cycles. -/
def Obligations.OptionCheckMakesTheListedTests : Prop :=
  (∀ s : State, (s.loader.options.bCode = 0 → s.burst = 32) ∧ (s.loader.options.bCode = 1 → s.burst = 64) ∧
    (s.loader.options.bCode = 2 → s.burst = 128)) ∧
  ∀ block : List Byte,
    let b : Nat → Nat := fun i => (charAt block i).toNat
    (block.length ≠ 17 → blockPasses block = false) ∧
    (block.length = 17 →
      (blockPasses block = true ↔
        (block.map BitVec.toNat).sum % 256 = 0 ∧ b 1 % 4 ≤ 2 ∧ (2 ≤ b 1 / 16 ∧ b 1 / 16 ≤ 8) ∧ (1 ≤ b 2 ∧ b 2 ≤ 250) ∧
        (2 ≤ b 3 ∧ b 3 ≤ 8) ∧ (2 ≤ b 4 ∧ b 4 ≤ 15) ∧ (1 ≤ b 5 ∧ b 5 ≤ 4) ∧ (1 ≤ b 6 / 16 ∧ b 6 / 16 ≤ 3) ∧
        (1 ≤ b 7 ∧ b 7 ≤ 9) ∧
        ∀ c < 4, b (8 + c) % 4 ≠ 3 ∧ (b (8 + c) % 4 = 1 → 1 ≤ b (12 + c) ∧ b (12 + c) ≤ 250 ∧ b (12 + c) ≤ b 2))) ∧
    (let o := readOptions block
     o.address.val = b 0 % 8 ∧ o.interval = b 1 / 16 ∧ o.bCode = b 1 % 4 ∧ o.budget = b 2 ∧ o.ignitionSeconds = b 3 ∧
     o.purgeSeconds = b 4 ∧ o.relightSeconds = b 5 ∧ o.attempts = b 6 / 16 ∧ o.supplyCode = b 6 % 4 ∧ o.ignitionStep = b 7 ∧
     ∀ c : Channel, o.channels[c].cls = b (8 + c.val) / 16 % 4 ∧ o.channels[c].demandUsed = bitOf (charAt block (8 + c.val)) 2 ∧
       o.channels[c].current = b (12 + c.val) ∧ (b (8 + c.val) % 4 = 0 → o.channels[c].kind = .unused) ∧
       (b (8 + c.val) % 4 = 1 → o.channels[c].kind = .element) ∧ (b (8 + c.val) % 4 = 2 → o.channels[c].kind = .gas))

/-! ## The Half-Cycle Time Base (chapter 1) -/

/-- R3: the three classes of an interval, their bounds inclusive, in units of 1/6000 ms (log 4): 9.2 ms is 55200. The class is all
that the lock detector keeps of an interval: two intervals of one class, ended by the same crossing, leave the same state. -/
def Obligations.IntervalsFallIntoThreeClasses : Prop :=
  (∀ i : Nat,
    (classify i = some .f50 ↔ 55200 ≤ i ∧ i ≤ 64800) ∧ (classify i = some .f60 ↔ 45600 ≤ i ∧ i ≤ 54000) ∧
    (classify i = none ↔ i < 45600 ∨ (54000 < i ∧ i < 55200) ∨ 64800 < i)) ∧
  (∀ (m r r' : Nat) (inp : EventInputs) (s : State), s.ready → s.locked = false → s.base.reference = some r →
    classify (m - r) = classify (m - r') →
    exec (.crossing m inp) s = exec (.crossing m inp) { s with base := { s.base with reference := some r' } })

/-- A crossing in SEEK or LOST (R2, R4): the first after a reset becomes the reference and nothing else; each later one feeds the
run count and becomes the reference, makes no event, and has the lock due when the run length comes to 16 (R5). The line-busy
indication is that of the moment (log 14). -/
def Obligations.UnlockedCrossingFeedsTheRunCount : Prop :=
  ∀ (m : Nat) (inp : EventInputs) (s : State), s.ready →
    (s.base.reference = none →
      exec (.crossing m inp) s = .next { s with
        base := { s.base with reference := some m, now := m }
        pins := { s.pins with zeroCross := !s.pins.zeroCross, sense := inp.sense }
        receiver := s.lineAt inp.lineBusy
        event := { s.event with order := inp.order } }) ∧
    (∀ r, s.base.reference = some r → s.locked = false → ∃ t, exec (.crossing m inp) s = .next t ∧
      t = { s with
        base := t.base
        pins := { s.pins with zeroCross := !s.pins.zeroCross, sense := inp.sense }
        receiver := s.lineAt inp.lineBusy
        event := { s.event with order := inp.order, due := t.event.due } } ∧
      t.base = { s.base with reference := some m, now := m, runBand := t.base.runBand, runLength := t.base.runLength } ∧
      (classify (m - r) = none → t.base.runBand = none ∧ t.base.runLength = 0) ∧
      (∀ x, classify (m - r) = some x → t.base.runBand = some x ∧
        t.base.runLength = if s.base.runBand = some x then s.base.runLength + 1 else 1) ∧
      t.event.due = if t.base.runLength = 16 then some .lock else none)

/-- A crossing in LOCK50 or LOCK60 in LISTEN or RUN (R6, R13): early, it moves neither phase nor reference; in band or late it is
the reference and makes a half-cycle event, the third bad one too (log 12); that one has the loss of lock due (R8). In START-UP and
CONFIG-FAULT it is judged alike and makes no event (R11). A level on its way to a driver is taken at the event only where the order
says so (log 13). The bounds of the 60 Hz band are in the units of log 4. The line-busy indication is that of the moment (log 14). -/
def Obligations.LockedCrossingIsJudgedAgainstTheBand : Prop :=
  ∀ (m r : Nat) (inp : EventInputs) (s : State), s.ready → s.locked = true → s.base.reference = some r →
    let low := if s.base.lock = .lock50 then 55200 else 45600
    let high := if s.base.lock = .lock50 then 64800 else 54000
    ∃ t, exec (.crossing m inp) s = .next t ∧
      t.pins = { s.pins with zeroCross := !s.pins.zeroCross, sense := inp.sense } ∧
      t.dispatcher.fifo = s.dispatcher.fifo ∧ t.arbiter.queue = s.arbiter.queue ∧ t.loader.node = s.loader.node ∧
      (∀ c : Channel, .handover c ∉ inp.order → t.handovers[c] = s.handovers[c]) ∧
      (m - r < low →
        t = { s with base := t.base, pins := t.pins, receiver := s.lineAt inp.lineBusy, event := t.event } ∧
        t.base = { s.base with now := m, badRun := s.base.badRun + 1 } ∧
        t.event.due = if 3 ≤ s.base.badRun + 1 then some .badRunLost else none) ∧
      (low ≤ m - r → s.active = true →
        t.base = { s.base with
          now := m, reference := some m, badRun := if m - r ≤ high then 0 else s.base.badRun + 1
          phase := (s.base.phase + 1) % s.burst, lastEvent := some m
          eventPhase := (s.base.phase + 1) % s.burst, eventRate := s.base.tickRate } ∧
        (t.event.due = none → m - r ≤ high ∨ s.base.badRun + 1 < 3) ∧
        t = halfCycleEvent m { s with
          base := { s.base with
            now := m, reference := some m, badRun := if m - r ≤ high then 0 else s.base.badRun + 1 }
          pins := t.pins, receiver := s.lineAt inp.lineBusy, event := { s.event with order := inp.order } }) ∧
      (low ≤ m - r → s.active = false →
        t = { s with base := t.base, pins := t.pins, event := t.event } ∧
        t.base = { s.base with
          now := m, reference := some m, badRun := if m - r ≤ high then 0 else s.base.badRun + 1 } ∧
        t.event.due = if m - r ≤ high ∨ s.base.badRun + 1 < 3 then none else some .badRunLost)

/-- The locking crossing (R5, R12): lock state, band and rate, bad run 0, the generator stopped; in LISTEN and RUN it makes a
half-cycle event unless one came less than half a nominal period before (30000 units, and 25000 at 60 Hz, where log 4 reads 4.167 ms
as half of 25/3 ms). What is left of an event goes on after it (`goOn`, O19). -/
def Obligations.LockingCrossingSetsBandAndRate : Prop :=
  ∀ (x : Band) (s : State), s.dueNow .lock → s.base.runBand = some x →
    let half := if x = .f50 then 30000 else 25000
    let recent := ∃ l, s.base.lastEvent = some l ∧ s.base.now - l < half
    let locked : State := { s with
      base := { s.base with
        lock := if x = .f50 then .lock50 else .lock60, band := some x, badRun := 0, freeRun := .stopped
        tickRate := if x = .f50 then 100 else 120 }
      event := { s.event with due := none } }
    ∃ u, exec .lock s = .next (goOn u) ∧
      (s.active = false ∨ recent → u = locked) ∧
      (s.active = true → ¬ recent →
        u = halfCycleEvent s.base.now locked ∧
        u.base = { locked.base with
          phase := (s.base.phase + 1) % s.burst, lastEvent := some s.base.now
          eventPhase := (s.base.phase + 1) % s.burst, eventRate := locked.base.tickRate } ∧
        u.dispatcher.fifo = s.dispatcher.fifo ∧ u.arbiter.queue = s.arbiter.queue ∧
        ∀ c : Channel, .handover c ∉ s.event.order → u.handovers[c] = s.handovers[c])

/-- The third bad crossing in a row ends the lock (R8, R9, R114): LOST with the band, the rate and the reference kept, the run count
cleared and every own spark off, heat states and valves kept. In LISTEN and RUN the generator starts, its first event one nominal
period (60000 units, or 50000 by log 4's reading of 8.333 ms) after the last event (with no event yet, after the reference: log 11;
where the lock made no event and early crossings lose it, log 27), at once where that has passed. -/
def Obligations.ThirdBadCrossingEntersLost : Prop :=
  ∀ s : State, s.dueNow .badRunLost →
    let period := if s.base.band = some .f60 then 50000 else 60000
    let first := (s.base.lastEvent.or s.base.reference).getD s.base.now + period
    let lost : FreeRun → State := fun generator => { s with
      base := { s.base with lock := .lost, runBand := none, runLength := 0, freeRun := generator }
      gas := s.gas.map fun g => { g with spark := false }
      event := { s.event with due := none } }
    ∃ u, exec .badRunLost s = .next (goOn u) ∧
      (s.active = false → u = lost .stopped) ∧
      (s.active = true → s.base.now < first → u = lost (.running period first)) ∧
      (s.active = true → first ≤ s.base.now →
        u = halfCycleEvent s.base.now (lost (.running period (s.base.now + period))) ∧
        u.base = { s.base with
          lock := .lost, runBand := none, runLength := 0, freeRun := .running period (s.base.now + period)
          phase := (s.base.phase + 1) % s.burst, lastEvent := some s.base.now
          eventPhase := (s.base.phase + 1) % s.burst, eventRate := s.base.tickRate } ∧
        u.dispatcher.fifo = s.dispatcher.fifo ∧ u.arbiter.queue = s.arbiter.queue) ∧
      ∀ c : Channel, u.gas[c].spark = false ∧
        (.handover c ∉ s.event.order → u.handovers[c] = s.handovers[c] ∧ u.gas[c].heat = s.gas[c].heat ∧
          u.gas[c].valve = s.gas[c].valve)

/-- The timeout (R7, R9): one and a half nominal periods after the reference crossing LOST is entered (the 60 Hz period is 50000 units
by log 4's reading of 8.333 ms), in LISTEN and RUN with a half-cycle event at once where the last event is a period or more back, else
with the generator's first event a period after it. Outside a lock, or before the first crossing, nothing but the sampled levels, the
line-busy indication and the sender's order is recorded (log 3, log 14). -/
def Obligations.TimeoutEntersLostWithAnEvent : Prop :=
  ∀ (inp : EventInputs) (s : State), s.ready →
    (s.locked = false ∨ s.base.reference = none →
      exec (.lockTimeout inp) s =
        .next { s with
          pins := { s.pins with sense := inp.sense }, receiver := s.lineAt inp.lineBusy
          event := { s.event with order := inp.order } }) ∧
    (∀ r, s.base.reference = some r → s.locked = true →
      let period := if s.base.lock = .lock50 then 60000 else 50000
      let moment := r + period + period / 2
      let lost : FreeRun → State := fun generator => { s with
        base := { s.base with lock := .lost, runBand := none, runLength := 0, now := moment, freeRun := generator }
        gas := s.gas.map fun g => { g with spark := false }
        pins := { s.pins with sense := inp.sense }
        receiver := s.lineAt inp.lineBusy
        event := { s.event with order := inp.order } }
      (s.active = false → exec (.lockTimeout inp) s = .next (lost .stopped)) ∧
      (s.active = true → s.rateFits → ∀ l, s.base.lastEvent = some l → moment < l + period →
        exec (.lockTimeout inp) s = .next (lost (.running period (l + period)))) ∧
      (s.active = true → s.rateFits → (∀ l, s.base.lastEvent = some l → l + period ≤ moment) →
        ∃ t, exec (.lockTimeout inp) s = .next t ∧
          t = halfCycleEvent moment (lost (.running period (moment + period))) ∧
          t.base = { s.base with
            lock := .lost, runBand := none, runLength := 0, now := moment, freeRun := .running period (moment + period)
            phase := (s.base.phase + 1) % s.burst, lastEvent := some moment
            eventPhase := (s.base.phase + 1) % s.burst, eventRate := s.base.tickRate } ∧
          t.dispatcher.fifo = s.dispatcher.fifo ∧ t.arbiter.queue = s.arbiter.queue ∧
          ∀ c : Channel, t.gas[c].spark = false ∧
            (.handover c ∉ inp.order → t.handovers[c] = s.handovers[c] ∧ t.gas[c].heat = s.gas[c].heat ∧
              t.gas[c].valve = s.gas[c].valve)))

/-- The free-run generator's due time in LISTEN and RUN (R10, R13): a half-cycle event then, the next one nominal period later.
While the generator stands still, only the sampled levels, the line-busy indication and the sender's order are recorded (log 3, log
14). A level on its way to a driver is taken at the event only where the order says so (log 13). -/
def Obligations.FreeRunEventAdvancesThePhase : Prop :=
  ∀ (inp : EventInputs) (s : State), s.ready →
    (s.base.freeRun = .stopped →
      exec (.freeRunDue inp) s =
        .next { s with
          pins := { s.pins with sense := inp.sense }, receiver := s.lineAt inp.lineBusy
          event := { s.event with order := inp.order } }) ∧
    (∀ p d, s.base.freeRun = .running p d → s.active = true → ∃ t, exec (.freeRunDue inp) s = .next t ∧
      t.base = { s.base with
        freeRun := .running p (d + p), now := d, phase := (s.base.phase + 1) % s.burst, lastEvent := some d
        eventPhase := (s.base.phase + 1) % s.burst, eventRate := s.base.tickRate } ∧
      t.pins = { s.pins with sense := inp.sense } ∧
      t.dispatcher.fifo = s.dispatcher.fifo ∧ t.arbiter.queue = s.arbiter.queue ∧
      (∀ c : Channel, .handover c ∉ inp.order → t.handovers[c] = s.handovers[c]) ∧
      t = halfCycleEvent d { s with
        base := { s.base with freeRun := .running p (d + p), now := d }, pins := { s.pins with sense := inp.sense }
        receiver := s.lineAt inp.lineBusy, event := { s.event with order := inp.order } })

/-- Every step keeps the time base's laws: the tick rate that of the lock state (R12), the generator standing still while locked and
in START-UP and CONFIG-FAULT (R10, R11), the phase below B (R13), an event taken to its end or a step due. -/
def Obligations.EveryStepKeepsTheTimeBaseLaws : Prop :=
  ∀ s t : State, s.rateFits → s.generatorFits → s.phaseFits → s.eventFits → step s = .next t →
    t.rateFits ∧ t.generatorFits ∧ t.phaseFits ∧ t.eventFits

/-- How an event is taken (R13). Every block takes it exactly once, whatever order the sender names, with a hand-over where and as
often as the order names one; what it names comes first and in its order where nothing but a hand-over is named twice (log 1, log
13). The event in LISTEN and RUN advances the phase and hands phase and rate, clears what belongs to one half-cycle and begins the
quiet test with the line-busy indication as it stands (log 14), completes a plan computation still in flight (log 6), and is taken
block by block, with the reports of each, until a step comes due; the step's command carries it out and goes on with the takings
left, so that none is dropped (log 2). With none due and all taken, a bad run of 3 has the loss of lock due (R8). In START-UP and
CONFIG-FAULT there is none (R11). The reports of a change from one state to another set state-pending for exactly the channels
whose program state, stage index, repeats done, alert, fault code, heat state or stray-flame indication it has changed (R161, R91),
once for each (log 16, and log 33, the model's choice), and change nothing else. -/
def Obligations.EveryBlockTakesAnEventOnce : Prop :=
  (∀ order : List Taking,
    allTakings.Nodup ∧ (∀ x, x ∈ allTakings ↔ ∀ c, x ≠ .handover c) ∧
    ((fullOrder order).filter fun x => !x.isHandover).Perm allTakings ∧
    (fullOrder order).filter Taking.isHandover = order.filter Taking.isHandover ∧
    ((order.filter fun x => !x.isHandover).Nodup → order <+: fullOrder order)) ∧
  (∀ (t : Nat) (s : State), s.active = false → halfCycleEvent t s = s) ∧
  (∀ (t : Nat) (s : State), s.active = true → s.plan.planning = none → halfCycleEvent t s = resumeTaking (fullOrder s.event.order)
    { s with
      base := { s.base with
        phase := (s.base.phase + 1) % s.burst, lastEvent := some t
        eventPhase := (s.base.phase + 1) % s.burst, eventRate := s.base.tickRate }
      tx := { s.tx with selection := if s.tx.sent = none then none else s.tx.selection, attempted := false }
      receiver := { s.receiver with heard := false, busySince := s.receiver.lineBusy }
      event := { EventWork.reset with order := s.event.order, startPoint := true } }) ∧
  (∀ (t : Nat) (s : State) (table : List ClaimEntry) (budget : Nat), s.active = true → s.plan.planning = some (table, budget) →
    halfCycleEvent t s = halfCycleEvent t { s with
      plan := { s.plan with next := computeMap (burstDigits s) budget table, computed := true, planning := none }
      dispatcher := { s.dispatcher with paused := false } }) ∧
  (∀ s t : State, s.loader.options = t.loader.options →
    noteReports s t = { t with tx := (noteReports s t).tx } ∧
    onlyFlags (fun r => ∃ c, r = .ofChannel .state c) t.tx (noteReports s t).tx ∧
    ∀ c : Channel,
      let p := s.programs[c]
      let q := t.programs[c]
      let changed := q.state ≠ p.state ∨ q.index ≠ p.index ∨ q.repeatsDone ≠ p.repeatsDone ∨ q.alert ≠ p.alert ∨
        q.fault ≠ p.fault ∨ (s.kind c = .element ∧ t.elements[c].heat ≠ s.elements[c].heat) ∨
        (s.kind c = .gas ∧ (t.gas[c].heat ≠ s.gas[c].heat ∨ t.gas[c].stray ≠ s.gas[c].stray))
      (changed → flagOf (noteReports s t).tx (.ofChannel .state c) = raised (flagOf t.tx (.ofChannel .state c))) ∧
      (¬ changed → flagOf (noteReports s t).tx (.ofChannel .state c) = flagOf t.tx (.ofChannel .state c))) ∧
  (∀ (x : Taking) (xs : List Taking) (s : State),
    let t := noteReports s (takeOne x s)
    (t.event.due = none → resumeTaking (x :: xs) s = resumeTaking xs t) ∧
    (t.event.due ≠ none → resumeTaking (x :: xs) s = { t with event := { t.event with untaken := xs } })) ∧
  (∀ s : State, s.event.due = none → resumeTaking [] s = { s with event := { s.event with
    untaken := [], due := if s.locked = true ∧ 3 ≤ s.base.badRun then some .badRunLost else none } }) ∧
  (∀ (d : Due) (s : State), s.dueNow d →
    exec (stepCommand d) s = .next (goOn (dueStep d { s with event := { s.event with due := none } }))) ∧
  (∀ s : State, (s.event.due = none → goOn s = resumeTaking s.event.untaken s) ∧ (s.event.due ≠ none → goOn s = s)) ∧
  (∀ (xs : List Taking) (s : State),
    (resumeTaking xs s).base = s.base ∧ (resumeTaking xs s).receiver = s.receiver ∧ (resumeTaking xs s).pins = s.pins ∧
    (resumeTaking xs s).dispatcher.fifo = s.dispatcher.fifo ∧ (resumeTaking xs s).pending = s.pending)

/-! ## Zone programs (chapter 2) -/

/-- A PROGRAM in range for a used channel in RUN whose program is EMPTY, READY or ENDED (R26): stored at its place, the program READY
from stage 0 on, the alert and the fault code left; no level is handed. The fields are where section 9.6 puts them (R154). -/
def Obligations.ProgramIsStoredWhenNotRunning : Prop :=
  (∀ body : List Byte,
    let b : Nat → Nat := fun i => (body.getD i 0).toNat
    let n := readProgram body
    targetOf body = b 0 ∧ n.channel = b 1 ∧ n.index = b 2 / 16 ∧ n.count = b 2 % 16 ∧ n.limit = b 3 ∧ n.level = b 4 ∧
    n.duration = b 5 * 256 + b 6 ∧
    n.basis = (if b 7 / 16 = 0 then some .wall else if b 7 / 16 = 1 then some .heat else none) ∧
    n.action = (if b 7 % 16 = 0 then some .next else if b 7 % 16 = 1 then some .off else if b 7 % 16 = 2 then some .again
      else if b 7 % 16 = 3 then some .keep else none)) ∧
  ∀ (f : RxFrame) (rest : List RxFrame) (c : Channel) (st : Stage) (s : State), s.delivers .program f rest →
    targetOf f.body = s.loader.options.address.val → (readProgram f.body).channel = c.val → s.inRun = true → s.used c = true →
    carriesStage (s.kind c) (readProgram f.body) st →
    (s.programs[c].state = .empty ∨ s.programs[c].state = .ready ∨ s.programs[c].state = .ended) →
    ∃ t, exec .program s = .next t ∧
      t = { s.popped rest with programs := s.programs.set c t.programs[c], tx := t.tx } ∧
      stagesStored (readProgram f.body) st s.programs[c].stages t.programs[c].stages ∧
      t.programs[c] = { storedRecord (readProgram f.body) t.programs[c].stages s.programs[c] with
        state := .ready, index := 0, repeatsDone := 0, elapsed := 0, subSecond := 0 } ∧
      onlyFlags (fun r => r = .ofChannel .state c) s.tx t.tx ∧
      (s.programs[c].state ≠ .ready → t.asked (.ofChannel .state c) = true)

/-- A PROGRAM is refused (R23 to R25): on an UNUSED channel, outside RUN, and in every program state with a field out of range. The
refusal sets the flag, raises its mark and sets state-pending (R160, R161), and nothing else changes. A channel number above 3
names no channel (R154). -/
def Obligations.ProgramOutOfRangeIsRefused : Prop :=
  ∀ (f : RxFrame) (rest : List RxFrame) (s : State), s.delivers .program f rest →
    targetOf f.body = s.loader.options.address.val →
    (4 ≤ (readProgram f.body).channel → exec .program s = .next (s.popped rest)) ∧
    (∀ c : Channel, (readProgram f.body).channel = c.val →
      (s.used c = false ∨ s.inRun = false ∨ carriesFault (s.kind c) (readProgram f.body)) →
      ∃ t, exec .program s = .next t ∧
        t = { s.popped rest with programs := s.programs.set c (refusedRecord s.programs[c]), tx := t.tx } ∧
        t.asked (.ofChannel .state c) = true ∧ onlyFlags (fun r => r = .ofChannel .state c) s.tx t.tx)

/-- A PROGRAM in range for a RUNNING or HELD program (R27, R28): refused where it would remove the stage being timed or falls below
the repeats done; else stored, and where it edits the stage being timed, that stage counts on with the alert cleared, or its
end action is carried out at once where the new duration is not 0 and not above elapsed. A level that the edit changes is handed, and
behind it one that the end action changes (R22, log 28). State-pending is set where the program state, the stage index, repeats done
or the alert has changed, and at a refusal (R161, R24); else it is left. -/
def Obligations.ProgramEditsARunningProgram : Prop :=
  ∀ (f : RxFrame) (rest : List RxFrame) (c : Channel) (st : Stage) (s : State), s.delivers .program f rest →
    targetOf f.body = s.loader.options.address.val → (readProgram f.body).channel = c.val → s.inRun = true → s.used c = true →
    carriesStage (s.kind c) (readProgram f.body) st →
    (s.programs[c].state = .running ∨ s.programs[c].state = .held) →
    let n := readProgram f.body
    let p := s.programs[c]
    ∃ t, exec .program s = .next t ∧
      t = { s.popped rest with programs := s.programs.set c t.programs[c], handovers := t.handovers, tx := t.tx } ∧
      onlyFlags (fun r => r = .ofChannel .state c) s.tx t.tx ∧
      (n.count ≤ p.index ∨ n.limit < p.repeatsDone →
        t.programs[c] = refusedRecord p ∧ t.handovers = s.handovers ∧ t.asked (.ofChannel .state c) = true) ∧
      (p.index < n.count → p.repeatsDone ≤ n.limit → ∃ stages, stagesStored n st p.stages stages ∧
        let q := storedRecord n stages p
        t.handovers = s.handovers.set c (handedOn q t.programs[c] (handedOn p q s.handovers[c])) ∧
        (n.index ≠ p.index → t.programs[c] = q) ∧
        (n.index = p.index → (st.duration = 0 ∨ p.elapsed < st.duration) → t.programs[c] = { q with alert := false }) ∧
        (n.index = p.index → st.duration ≠ 0 → st.duration ≤ p.elapsed → t.programs[c] = carryEnd st q) ∧
        let r := t.programs[c]
        let changed := r.state ≠ p.state ∨ r.index ≠ p.index ∨ r.repeatsDone ≠ p.repeatsDone ∨ r.alert ≠ p.alert
        (changed → t.asked (.ofChannel .state c) = true) ∧ (¬ changed → t.tx = s.tx))

/-- START on each channel its mask names (R29, R23, R155): refused outside RUN, on an UNUSED channel, unless the program is READY or
ENDED with every stage below the count defined, while the halt input is asserted, and while a gas channel is in LOCKOUT; else
the program runs from stage 0 with its counts 0, the alert and the fault code cleared, and its level handed (R22). The mask names
channel c by bit c of the second character. The level handed is that of the stage at the current index while RUNNING, and 0 in every
other program state. -/
def Obligations.StartRunsAProgramFromStageZero : Prop :=
  (∀ p : Program,
    (∀ i : Fin 6, p.index = i.val → currentStage p = p.stages[i]) ∧
    (∀ st, p.state = .running → currentStage p = some st → effectiveLevel p = st.level) ∧
    (p.state ≠ .running → effectiveLevel p = 0)) ∧
  (∀ (body : List Byte) (c : Channel), maskNames body c = (body.getD 1 0).getLsbD c.val) ∧
  ∀ (f : RxFrame) (rest : List RxFrame) (s : State), s.delivers .start f rest →
    targetOf f.body = s.loader.options.address.val →
    ∃ t, exec .start s = .next t ∧
      t = { s.popped rest with programs := t.programs, handovers := t.handovers, tx := t.tx } ∧
      onlyFlags (fun r => ∃ c, maskNames f.body c = true ∧ r = .ofChannel .state c) s.tx t.tx ∧
      ∀ c : Channel,
        let p := s.programs[c]
        let ok := s.used c = true ∧ s.inRun = true ∧ (p.state = .ready ∨ p.state = .ended) ∧
          (∀ k : Fin 6, k.val < p.stageCount → p.stages[k].isSome = true) ∧ s.pins.halt = false ∧
          ¬ (s.kind c = .gas ∧ s.gas[c].heat = .lockout)
        t.handovers[c] = handedOn p t.programs[c] s.handovers[c] ∧
        (maskNames f.body c = false → t.programs[c] = p) ∧
        (maskNames f.body c = true → ¬ ok → t.programs[c] = refusedRecord p ∧ t.asked (.ofChannel .state c) = true) ∧
        (maskNames f.body c = true → ok → t.asked (.ofChannel .state c) = true ∧
          t.programs[c] = { p with
            state := .running, index := 0, repeatsDone := 0, elapsed := 0, subSecond := 0, alert := false, fault := .none })

/-- HOLD and RESUME on each channel their mask names (R30, R31, R23, R155): RUNNING goes to HELD and HELD to RUNNING with every count
and the alert kept and the changed level handed; any other program state is left without a refusal; outside RUN and on an UNUSED
channel they are refused. A change or a refusal sets the channel's state-pending (R161), and no other flag is touched. -/
def Obligations.HoldAndResumeKeepTheCounts : Prop :=
  ∀ (f : RxFrame) (rest : List RxFrame) (s : State), targetOf f.body = s.loader.options.address.val →
    (s.delivers .hold f rest → ∃ t, exec .hold s = .next t ∧
      t = { s.popped rest with programs := t.programs, handovers := t.handovers, tx := t.tx } ∧
      onlyFlags (fun r => ∃ c, t.programs[c] ≠ s.programs[c] ∧ r = .ofChannel .state c) s.tx t.tx ∧
      ∀ c : Channel,
        let p := s.programs[c]
        t.handovers[c] = handedOn p t.programs[c] s.handovers[c] ∧
        (t.programs[c] ≠ p → t.asked (.ofChannel .state c) = true) ∧
        (maskNames f.body c = false → t.programs[c] = p) ∧
        (maskNames f.body c = true → s.used c = false ∨ s.inRun = false → t.programs[c] = refusedRecord p) ∧
        (maskNames f.body c = true → s.used c = true → s.inRun = true →
          t.programs[c] = if p.state = .running then { p with state := .held } else p)) ∧
    (s.delivers .resume f rest → ∃ t, exec .resume s = .next t ∧
      t = { s.popped rest with programs := t.programs, handovers := t.handovers, tx := t.tx } ∧
      onlyFlags (fun r => ∃ c, t.programs[c] ≠ s.programs[c] ∧ r = .ofChannel .state c) s.tx t.tx ∧
      ∀ c : Channel,
        let p := s.programs[c]
        t.handovers[c] = handedOn p t.programs[c] s.handovers[c] ∧
        (t.programs[c] ≠ p → t.asked (.ofChannel .state c) = true) ∧
        (maskNames f.body c = false → t.programs[c] = p) ∧
        (maskNames f.body c = true → s.used c = false ∨ s.inRun = false → t.programs[c] = refusedRecord p) ∧
        (maskNames f.body c = true → s.used c = true → s.inRun = true →
          t.programs[c] = if p.state = .held then { p with state := .running } else p))

/-- STOP on each channel its mask names (R32, R109, R23, R155): READY, RUNNING, HELD and ENDED go to ENDED with the alert cleared and
the rest of the record kept, EMPTY is passed over; a gas channel in LOCKOUT goes to OFF with its attempts 0 and its stray
indication clear, and asks for the removal of a key still queued (R112). Outside RUN and on an UNUSED channel it is refused. A
refusal and every change set the channel's state-pending (R161, R24); where nothing changes, as on an ENDED program with no alert, it
is left. -/
def Obligations.StopEndsProgramsAndClearsLockout : Prop :=
  ∀ (f : RxFrame) (rest : List RxFrame) (s : State), s.delivers .stop f rest →
    targetOf f.body = s.loader.options.address.val →
    let clears : Channel → Prop := fun c => maskNames f.body c = true ∧ s.used c = true ∧ s.inRun = true ∧ s.kind c = .gas ∧
      s.gas[c].heat = .lockout ∧ s.programs[c].state ≠ .empty
    ∃ t, exec .stop s = .next t ∧
      t = { s.popped rest with
        programs := t.programs, handovers := t.handovers, gas := t.gas
        arbiter := { s.arbiter with freeOutstanding := t.arbiter.freeOutstanding }, tx := t.tx } ∧
      onlyFlags (fun r => ∃ c, maskNames f.body c = true ∧
        (r = .ofChannel .state c ∨ (clears c ∧ r = .ofChannel .sparkFree c))) s.tx t.tx ∧
      ∀ c : Channel,
        let p := s.programs[c]
        let taken := maskNames f.body c = true ∧ s.used c = true ∧ s.inRun = true
        t.handovers[c] = handedOn p t.programs[c] s.handovers[c] ∧
        (maskNames f.body c = false → t.programs[c] = p) ∧
        (maskNames f.body c = true → s.used c = false ∨ s.inRun = false → t.programs[c] = refusedRecord p) ∧
        (taken → t.programs[c] = stopRecord p) ∧
        (t.programs[c] ≠ p ∨ clears c → t.asked (.ofChannel .state c) = true) ∧
        (t.programs[c] = p → ¬ clears c → flagOf t.tx (.ofChannel .state c) = flagOf s.tx (.ofChannel .state c)) ∧
        (clears c → t.gas[c] = { s.gas[c] with heat := .off, attempts := 0, stray := false } ∧
          (s.ownKey c ∈ s.arbiter.queue → t.asked (.ofChannel .sparkFree c) = true)) ∧
        (¬ clears c → t.gas[c] = s.gas[c] ∧ t.arbiter.freeOutstanding[c] = s.arbiter.freeOutstanding[c])

/-- A HALT-ALL and a halt assertion stop every used channel as a STOP does, with no refusal (R33, R156); the assertion sets
halt-pending in RUN, does nothing but follow the input in START-UP and CONFIG-FAULT, and an input already asserted makes none.
The input's return has no effect of its own. State-pending is set for exactly the channels that the STOP changes (R161). -/
def Obligations.HaltStopsEveryUsedChannel : Prop :=
  ∀ (f : RxFrame) (rest : List RxFrame) (s : State),
    let clears : Channel → Prop := fun c =>
      s.used c = true ∧ s.kind c = .gas ∧ s.gas[c].heat = .lockout ∧ s.programs[c].state ≠ .empty
    let stops : State → Prop := fun t =>
      ∀ c : Channel,
        t.handovers[c] = handedOn s.programs[c] t.programs[c] s.handovers[c] ∧
        t.programs[c] = (if s.used c then stopRecord s.programs[c] else s.programs[c]) ∧
        (t.programs[c] ≠ s.programs[c] ∨ clears c → t.asked (.ofChannel .state c) = true) ∧
        (t.programs[c] = s.programs[c] → ¬ clears c →
          flagOf t.tx (.ofChannel .state c) = flagOf s.tx (.ofChannel .state c)) ∧
        (clears c → t.gas[c] = { s.gas[c] with heat := .off, attempts := 0, stray := false } ∧
          (s.ownKey c ∈ s.arbiter.queue → t.asked (.ofChannel .sparkFree c) = true)) ∧
        (¬ clears c → t.gas[c] = s.gas[c] ∧ t.arbiter.freeOutstanding[c] = s.arbiter.freeOutstanding[c])
    let reports : Request → Prop := fun r =>
      ∃ c, s.used c = true ∧ (r = .ofChannel .state c ∨ (clears c ∧ r = .ofChannel .sparkFree c))
    (s.delivers .haltAll f rest → ∃ t, exec .haltAll s = .next t ∧ stops t ∧
      t = { s.popped rest with
        programs := t.programs, handovers := t.handovers, gas := t.gas
        arbiter := { s.arbiter with freeOutstanding := t.arbiter.freeOutstanding }, tx := t.tx } ∧
      onlyFlags reports s.tx t.tx) ∧
    (s.ready → s.pins.halt = false → s.active = true → ∃ t, exec .haltAssertion s = .next t ∧ stops t ∧
      t = { s with
        programs := t.programs, handovers := t.handovers, gas := t.gas
        arbiter := { s.arbiter with freeOutstanding := t.arbiter.freeOutstanding }, tx := t.tx
        pins := { s.pins with halt := true } } ∧
      onlyFlags (fun r => reports r ∨ r = .haltAll) s.tx t.tx ∧
      flagOf t.tx .haltAll = if s.inRun then raised (flagOf s.tx .haltAll) else flagOf s.tx .haltAll) ∧
    (s.ready → s.pins.halt = false → s.active = false →
      exec .haltAssertion s = .next { s with pins := { s.pins with halt := true } }) ∧
    (s.ready → s.pins.halt = true → exec .haltAssertion s = .next s) ∧
    (s.ready → exec .haltInputRelease s = .next { s with pins := { s.pins with halt := false } })

/-- A targeted notice for another address is removed and changes nothing (R150); so are a STATE and a COUNTS (R149). A QUERY for the
own address sets counts-due (R167). No delivery is made while the Dispatcher is paused by a plan computation (R61, R139), none with an
empty FIFO or another kind at its head (R139), and none in START-UP and CONFIG-FAULT (R139, R175): the command of a delivery then
changes nothing (log 3). -/
def Obligations.QueryAsksForCountsAndOthersAreRemoved : Prop :=
  (∀ (m : Nat) (s : State) (k : NoticeKind) (c : Instr),
    (k, c) ∈ [(NoticeKind.presence, Instr.presence), (.claim, .claim), (.release, .release), (.spark, .spark),
      (.sparkFree, .sparkFree), (.program, .program), (.start, .start), (.hold, .hold), (.resume, .resume), (.stop, .stop),
      (.haltAll, .haltAll), (.state, .state), (.query, .query), (.counts, .counts), (.restart, .restart m)] →
    s.ready → (s.active = false ∨ s.dispatcher.paused = true ∨ ∀ f rest, s.dispatcher.fifo = f :: rest → f.kind ≠ k) →
    exec c s = .next s) ∧
  ∀ (f : RxFrame) (rest : List RxFrame) (s : State),
    (s.delivers .state f rest → exec .state s = .next (s.popped rest)) ∧
    (s.delivers .counts f rest → exec .counts s = .next (s.popped rest)) ∧
    (s.delivers .query f rest → targetOf f.body = s.loader.options.address.val →
      exec .query s = .next { s.popped rest with
        tx := { s.tx with counts := { isSet := true, mark := s.tx.counts.mark + 1 } } }) ∧
    (targetOf f.body ≠ s.loader.options.address.val →
      (s.delivers .program f rest → exec .program s = .next (s.popped rest)) ∧
      (s.delivers .start f rest → exec .start s = .next (s.popped rest)) ∧
      (s.delivers .hold f rest → exec .hold s = .next (s.popped rest)) ∧
      (s.delivers .resume f rest → exec .resume s = .next (s.popped rest)) ∧
      (s.delivers .stop f rest → exec .stop s = .next (s.popped rest)) ∧
      (s.delivers .query f rest → exec .query s = .next (s.popped rest)))

/-- A channel's consideration of a half-cycle event (R34 to R36): counted exactly when the program is RUNNING, the stage is not kept
and not open-ended at 65534, and its basis is WALL or the channel is delivering heat; a counted event raises the sub-second count,
and the second is complete where that reaches the tick rate handed with the event. -/
def Obligations.EventIsCountedByTheRunningStage : Prop :=
  ∀ (c : Channel) (s : State),
    let p := s.programs[c]
    let heats :=
      (s.kind c = .element ∧ s.elements[c].heat = .admitted ∧
        (∃ slots, placedSlots s.plan.current (s.ownKey c) = some slots) ∧ s.locked = true ∧ s.inRun = true) ∨
      (s.kind c = .gas ∧ s.gas[c].heat = .proven)
    let counted := s.used c = true ∧ p.state = .running ∧ p.alert = false ∧ ∃ st, currentStage p = some st ∧
      ¬ (st.duration = 0 ∧ 65534 ≤ p.elapsed) ∧ (st.basis = .wall ∨ heats)
    (¬ counted → takeOne (.count c) s = s) ∧
    (counted → takeOne (.count c) s = { s with
      programs := s.programs.set c { p with subSecond := p.subSecond + 1 }
      event := { s.event with
        due := if s.base.eventRate ≤ p.subSecond + 1 then some (.secondComplete c) else s.event.due } })

/-- A completed second (R36, R37, R162): sub-second 0 and elapsed up by 1; the stage's expiry is due where elapsed has come to a
duration that is not 0, else none is due and a multiple of 30 seconds sets state-pending. The command goes on with the takings left of
the event, where no expiry is due (`goOn`, O19). -/
def Obligations.CompletedSecondRaisesElapsed : Prop :=
  ∀ (c : Channel) (s : State), s.dueNow (.secondComplete c) →
    let p := s.programs[c]
    let timeUp := ∃ st, currentStage p = some st ∧ st.duration ≠ 0 ∧ p.elapsed + 1 = st.duration
    ∃ u, exec (.secondComplete c) s = .next (goOn u) ∧
      u = { s with
        programs := s.programs.set c { p with subSecond := 0, elapsed := p.elapsed + 1 }, tx := u.tx
        event := { s.event with due := u.event.due } } ∧
      (timeUp → u.event.due = some (.stageExpiry c) ∧ u.tx = s.tx ∧ goOn u = u) ∧
      (¬ timeUp → u.event.due = none ∧ goOn u = resumeTaking s.event.untaken u) ∧
      (¬ timeUp → (p.elapsed + 1) % 30 = 0 →
        u.asked (.ofChannel .state c) = true ∧ onlyFlags (fun r => r = .ofChannel .state c) s.tx u.tx) ∧
      (¬ timeUp → (p.elapsed + 1) % 30 ≠ 0 → u.tx = s.tx)

/-- An expired stage's end action (R38 to R41): NEXT to a defined stage below the count and else OFF; OFF to ENDED with elapsed at the
duration; REPEAT to stage 0 while repeats are left and else OFF; KEEP with the alert set and elapsed at the duration. A changed
level is handed (R22), and a change sets state-pending (R161). The event then goes on (`goOn`, O19). -/
def Obligations.ExpiryCarriesOutTheEndAction : Prop :=
  ∀ (c : Channel) (st : Stage) (s : State), s.dueNow (.stageExpiry c) → currentStage s.programs[c] = some st →
    let p := s.programs[c]
    let off : Program := { p with state := .ended, alert := false, elapsed := st.duration }
    let more := p.index + 1 < p.stageCount ∧ ∃ nx, p.stages[p.index + 1]? = some (some nx)
    ∃ u, exec (.stageExpiry c) s = .next (goOn u) ∧
      u = { s with
        programs := s.programs.set c u.programs[c], handovers := s.handovers.set c (handedOn p u.programs[c] s.handovers[c])
        tx := u.tx, event := { s.event with due := none } } ∧
      onlyFlags (fun r => r = .ofChannel .state c) s.tx u.tx ∧
      (st.action = .next → more →
        u.programs[c] = { p with index := p.index + 1, elapsed := 0, subSecond := 0, alert := false }) ∧
      (st.action = .next → ¬ more → u.programs[c] = off) ∧
      (st.action = .off → u.programs[c] = off) ∧
      (st.action = .again → p.repeatsDone < p.repeatLimit →
        u.programs[c] = { p with
          repeatsDone := p.repeatsDone + 1, index := 0, elapsed := 0, subSecond := 0, alert := false }) ∧
      (st.action = .again → p.repeatLimit ≤ p.repeatsDone → u.programs[c] = off) ∧
      (st.action = .keep → u.programs[c] = { p with alert := true, elapsed := st.duration }) ∧
      (p.state = .running → p.alert = false → u.asked (.ofChannel .state c) = true)

/-! ## The claim table and the plan (chapters 3 and 4) -/

/-- CLAIM and RELEASE (R49 to R51): from 8..15, and with a field out of range for the receiver's B, they are only removed; else a
CLAIM sets the entry of its key to the carried content, its flag kept where it was present and clear where it is new, and a RELEASE
removes it; every other key's entry stays. An own CLAIM is taken when marked own (log 18), with the standing release rule (R85)
where the entry has changed (log 25). The fields are where section 9.6 puts them (R153). -/
def Obligations.ClaimAndReleaseSetTheEntry : Prop :=
  (∀ body : List Byte,
    let b : Nat → Nat := fun i => (body.getD i 0).toNat
    readClaim body = { channel := b 0 / 16, cls := b 0 % 16, current := b 1, slots := b 2 }) ∧
  ∀ (f : RxFrame) (rest : List RxFrame) (s : State),
    (s.delivers .claim f rest →
      let n := readClaim f.body
      let inRange := n.channel ≤ 3 ∧ n.cls ≤ 3 ∧ 1 ≤ n.current ∧ n.current ≤ 250 ∧ 1 ≤ n.slots ∧ n.slots ≤ s.burst
      (8 ≤ f.source.val ∨ ¬ inRange → exec .claim s = .next (s.popped rest)) ∧
      (∀ k : Key, k.station.val = f.source.val → k.channel.val = n.channel → inRange →
        (s.isOwn f.source = true → f.own = true) → ∃ t, exec .claim s = .next t ∧
          t = { s.popped rest with plan := { s.plan with table := t.plan.table }, tx := t.tx } ∧
          findEntry k t.plan.table = some
            { key := k, current := n.current, slots := n.slots, cls := n.cls, placedLast := entryFlag k s.plan.table } ∧
          (∀ q, q ≠ k → findEntry q t.plan.table = findEntry q s.plan.table) ∧
          (s.tableOrdered → t.tableOrdered) ∧
          (s.isOwn f.source = false → t.tx = s.tx) ∧
          onlyFlags (fun r => r = .ofChannel .claim k.channel ∨ r = .ofChannel .release k.channel) s.tx t.tx ∧
          (s.isOwn f.source = true → findEntry k t.plan.table ≠ findEntry k s.plan.table →
            s.kind k.channel = .element → asksClaim s.elements[k.channel].heat = false →
            t.asked (.ofChannel .release k.channel) = true))) ∧
    (s.delivers .release f rest →
      let c := (charAt f.body 0).toNat
      (8 ≤ f.source.val ∨ 4 ≤ c → exec .release s = .next (s.popped rest)) ∧
      (∀ k : Key, k.station.val = f.source.val → k.channel.val = c → (s.isOwn f.source = true → f.own = true) →
        exec .release s = .next { s.popped rest with
          plan := { s.plan with table := s.plan.table.filter fun e => e.key ≠ k } }))

/-- The order of the table is a function of its content (R47): class, then station, then channel; two tables in that order with the
same entries are the same table. -/
def Obligations.ClaimOrderIsAFunctionOfContent : Prop :=
  (∀ a b : ClaimEntry, entryBefore a b = true ↔
    a.cls < b.cls ∨ (a.cls = b.cls ∧ (a.key.station.val < b.key.station.val ∨
      (a.key.station.val = b.key.station.val ∧ a.key.channel.val < b.key.channel.val)))) ∧
  (∀ l₁ l₂ : List ClaimEntry, l₁.Pairwise (fun a b => entryBefore a b = true) →
    l₂.Pairwise (fun a b => entryBefore a b = true) → (∀ e, e ∈ l₁ ↔ e ∈ l₂) → l₁ = l₂)

/-- Every step keeps the claim table in key order with at most one entry for a key (R46, R47), the spark queue with at most one entry
for a key (R96), the counters in 0..255 (R164), the receive FIFO at 4 frames or fewer (R138), at most one of claim-pending and
release-pending for a channel (R83), and the program records with their relations (R20, R21): the current stage index below the stage
count, repeats done at most the repeat limit, elapsed at most a duration that is not 0, every defined stage valid; such a table and
such a queue hold at most 32. An increase of a counter adds 1 below 255 and leaves 255 (R164). -/
def Obligations.EveryStepKeepsTheBlockLaws : Prop :=
  (∀ s t : State, s.tableOrdered → step s = .next t → t.tableOrdered) ∧
  (∀ s t : State, s.queueUnique → step s = .next t → t.queueUnique) ∧
  (∀ s t : State, s.countersBounded → step s = .next t → t.countersBounded) ∧
  (∀ s t : State, s.fifoBounded → step s = .next t → t.fifoBounded) ∧
  (∀ s t : State, s.wishesFit → step s = .next t → t.wishesFit) ∧
  (∀ s t : State, s.recordsFit → step s = .next t → t.recordsFit) ∧
  (∀ s : State, s.tableOrdered → s.plan.table.length ≤ 32) ∧
  (∀ s : State, s.queueUnique → s.arbiter.queue.length ≤ 32) ∧
  (∀ n : Nat, saturate n = if n < 255 then n + 1 else n)

/-- R62: for each burst length the scan order holds every phase once; candidate k has the binary digits of k in reverse; the first m
candidates, for m a power of two, are the multiples of B/m; the first sixteen are those of the table; and the digits are those of
the node's B, so that nodes of one B share the order. -/
def Obligations.ScanOrderReversesTheDigits : Prop :=
  (∀ s : State, 2 ^ burstDigits s = s.burst) ∧
  (∀ n, 5 ≤ n → n ≤ 7 →
    (scanOrder n).Perm (List.range (2 ^ n)) ∧
    (∀ k < 2 ^ n, ∀ i < n, ((scanOrder n).getD k 0).testBit i = k.testBit (n - 1 - i)) ∧
    (∀ m ≤ n, ((scanOrder n).take (2 ^ m)).Perm ((List.range (2 ^ m)).map fun j => j * 2 ^ (n - m)))) ∧
  (scanOrder 5).take 16 = [0, 16, 8, 24, 4, 20, 12, 28, 2, 18, 10, 26, 6, 22, 14, 30] ∧
  (scanOrder 6).take 16 = [0, 32, 16, 48, 8, 40, 24, 56, 4, 36, 20, 52, 12, 44, 28, 60] ∧
  (scanOrder 7).take 16 = [0, 64, 32, 96, 16, 80, 48, 112, 8, 72, 40, 104, 24, 88, 56, 120]

/-- The plan computation never passes the budget (R63): in every phase the currents of the entries placed there sum to at most the
budget. -/
def Obligations.PlacementStaysWithinTheBudget : Prop :=
  ∀ (n budget p : Nat) (table : List ClaimEntry),
    ((table.zip (computeMap n budget table)).map fun er => if p ∈ er.2.slots then er.1.current else 0).sum ≤ budget

/-- Placement is all or nothing (R60, R63, R64): one record for each entry, in the table's order; a placed entry has exactly the
phases it needs, each once and inside the burst, and an unplaced one none; nothing whose current is above the budget is placed; the
first entry is placed where it fits. Each entry is placed exactly when enough phases have room for its current beside the entries
before it that are placed there, in the first such phases of the scan order. -/
def Obligations.PlacementIsAllOrNothing : Prop :=
  ∀ (n budget : Nat) (table : List ClaimEntry),
    (computeMap n budget table).map Placement.key = table.map ClaimEntry.key ∧
    (∀ er ∈ table.zip (computeMap n budget table),
      (er.2.placed = true → er.2.slots.length = er.1.slots ∧ er.2.slots.Nodup ∧ ∀ p ∈ er.2.slots, p < 2 ^ n) ∧
      (er.2.placed = false → er.2.slots = []) ∧
      (budget < er.1.current → 1 ≤ er.1.slots → er.2.placed = false)) ∧
    (∀ e es, table = e :: es → e.current ≤ budget → e.slots ≤ 2 ^ n →
      ∃ r rs, computeMap n budget table = r :: rs ∧ r.key = e.key ∧ r.placed = true ∧ r.slots = (scanOrder n).take e.slots) ∧
    (∀ pre e post, table = pre ++ e :: post →
      let map := computeMap n budget table
      let load : Nat → Nat := fun p => ((pre.zip map).map fun er => if p ∈ er.2.slots then er.1.current else 0).sum
      let room := (scanOrder n).filter fun p => load p + e.current ≤ budget
      ∃ r, map[pre.length]? = some r ∧ r.key = e.key ∧ (r.placed = true ↔ e.slots ≤ room.length) ∧
        (r.placed = true → r.slots = room.take e.slots))

/-- The plan point reads the table and the effective budget and pauses the Dispatcher (R61); the completion replaces the next map as
a whole by the placement of what was read, with status computed, and ends the pause (R65); with no computation in flight the
command changes nothing (log 3). -/
def Obligations.PlanCompletionReplacesTheNextMap : Prop :=
  ∀ s : State,
    (s.base.phase + 1 = s.burst → takeOne .plan s = { s with
      plan := { s.plan with planning := some (s.plan.table, s.plan.budget) }
      dispatcher := { s.dispatcher with paused := true } }) ∧
    (s.base.phase + 1 ≠ s.burst → takeOne .plan s = s) ∧
    (s.ready → s.plan.planning = none → exec .planComputationComplete s = .next s) ∧
    (∀ table budget, s.ready → s.plan.planning = some (table, budget) → exec .planComputationComplete s = .next { s with
      plan := { s.plan with next := computeMap (burstDigits s) budget table, computed := true, planning := none }
      dispatcher := { s.dispatcher with paused := false } })

/-- The swap of a burst start, once (R67, R55): the computed next map becomes the current one, else an empty one; the next map is
empty with status none; every entry's flag says whether the new map places its key, the rest of the entry kept. Each own ELEMENT
channel is handed its result by the table of R68, from its heat state, the new map and the flag, all as they stood before, and every
result SHED is counted then and there (R69, R84, R165). A SHED channel with its flag set does not arise, and is left as it is (log
20). What a map places a key in is the slot set of the placed record of the key, and a flag is that of the key's entry, clear with
no entry. -/
def Obligations.SwapInstallsTheNextMap : Prop :=
  (∀ (map : List Placement) (k : Key),
    (∀ slots, placedSlots map k = some slots → ∃ r ∈ map, r.key = k ∧ r.placed = true ∧ r.slots = slots) ∧
    (placedSlots map k = none ↔ ∀ r ∈ map, r.key = k → r.placed = false)) ∧
  (∀ (table : List ClaimEntry) (k : Key),
    (∀ e, findEntry k table = some e → e ∈ table ∧ e.key = k ∧ entryFlag k table = e.placedLast) ∧
    (findEntry k table = none ↔ ∀ e ∈ table, e.key ≠ k) ∧ (findEntry k table = none → entryFlag k table = false)) ∧
  ∀ s : State,
    (s.base.phase ≠ 0 ∨ s.event.swapped = true → takeOne .swap s = s) ∧
    (s.base.phase = 0 → s.event.swapped = false →
      let map := if s.plan.computed then s.plan.next else []
      let placed : Channel → Bool := fun c => (placedSlots map (s.ownKey c)).isSome
      let flag : Channel → Bool := fun c => entryFlag (s.ownKey c) s.plan.table
      let result : Channel → Option SwapResult := fun c =>
        if s.kind c ≠ .element then none else match s.elements[c].heat with
          | .off | .satisfied => none
          | .claiming => some (if placed c then .admitted else if flag c then .shed else .stays)
          | .admitted => some (if placed c then .admitted else .shed)
          | .shed => some (if placed c then .admitted else .stays)
      ∃ t, takeOne .swap s = t ∧ t = { s with plan := t.plan, event := t.event, counters := t.counters } ∧
        t.plan = { s.plan with
          current := map, next := [], computed := false
          table := s.plan.table.map fun e => { e with placedLast := (placedSlots map e.key).isSome } } ∧
        t.event = { s.event with swapped := true, results := t.event.results } ∧
        (∀ c : Channel, t.event.results[c] = result c) ∧
        t.counters = { s.counters with
          sheds := saturate^[(allChannels.filter fun c => result c = some .shed).length] s.counters.sheds })

/-! ## Element channels (chapter 5) -/

/-- The driver takes the placement result that the swap has handed it (R84): ADMITTED makes it ADMITTED, SHED makes it SHED with the
relay open at once, and the third leaves the heat state as it was; OFF and SATISFIED take none. The driver counts nothing (R84). A
swap not yet taken comes before its result, and with no result on its way the taking changes nothing. -/
def Obligations.PlacementResultMovesTheDriver : Prop :=
  (∀ (c : Channel) (s : State), takeOne (.result c) s = takeOne (.result c) (takeOne .swap s)) ∧
  ∀ (c : Channel) (s : State), s.base.phase ≠ 0 ∨ s.event.swapped = true →
    let e := s.elements[c]
    (s.event.results[c] = none → takeOne (.result c) s = s) ∧
    (∀ r, s.event.results[c] = some r → ∃ t, takeOne (.result c) s = t ∧
      t = { s with
        elements := s.elements.set c t.elements[c], event := { s.event with results := s.event.results.set c none } } ∧
      (asksClaim e.heat = false → t.elements[c] = e) ∧
      (asksClaim e.heat = true →
        (r = .admitted → t.elements[c] = { e with heat := .admitted }) ∧
        (r = .shed → t.elements[c] = { e with heat := .shed, relay := false }) ∧
        (r = .stays → t.elements[c] = e)))

/-- ELEMENT_HANDOVER (R77 to R80, R83, R87): the driver takes the oldest level handed to it (log 13). In OFF a level above 0 starts
the wish, with a claim or, the demand input in use and inactive, SATISFIED; level 0 ends a wish, with the relay open and
release-pending set in place of claim-pending; another level recomputes the content, with a claim where the channel asks. With
nothing handed, or not on an ELEMENT channel, the command changes nothing (log 3). A level equal to the one in hand changes nothing
but the content that it gives again (log 21, the model's reading of R79). A hand-over that comes inside a half-cycle event, at the
place its order names (R89), has the same effect, with its reports; behind a burst-start swap it finds the channel's result taken,
and the one report covers both changes of heat state (log 33, the model's choice). In START-UP and CONFIG-FAULT no hand-over reaches
the driver (R44, R90). -/
def Obligations.ElementHandoverActsByHeatState : Prop :=
  (∀ (c : Channel) (s : State),
    (s.loader.held = false → s.event.due = none → s.kind c = .element → s.event.results[c] = none →
      exec (.elementHandover c) s = .next (noteReports s (takeOne (.handover c) s))) ∧
    (s.active = true → s.kind c = .element → s.handovers[c] ≠ [] → s.base.phase ≠ 0 ∨ s.event.swapped = true →
      takeOne (.handover c) s = takeOne (.handover c) (takeOne (.result c) s)) ∧
    (s.kind c = .unused → takeOne (.handover c) s = s) ∧
    (s.ready → s.active = false → exec (.elementHandover c) s = .next s)) ∧
  ∀ (c : Channel) (s : State), s.ready → s.active = true →
    (s.kind c ≠ .element ∨ s.handovers[c] = [] → exec (.elementHandover c) s = .next s) ∧
    (∀ level rest, s.kind c = .element → s.handovers[c] = level :: rest →
      let e := s.elements[c]
      let content : ClaimContent :=
        { current := s.loader.options.channels[c].current, slots := level * s.burst / 16
          cls := s.loader.options.channels[c].cls }
      let claims : State → Prop := fun t =>
        t.asked (.ofChannel .claim c) = true ∧ t.asked (.ofChannel .release c) = false
      let releases : State → Prop := fun t =>
        t.asked (.ofChannel .release c) = true ∧ t.asked (.ofChannel .claim c) = false
      ∃ t, exec (.elementHandover c) s = .next t ∧
        t = { s with
          elements := s.elements.set c t.elements[c], handovers := s.handovers.set c rest, tx := t.tx } ∧
        onlyFlags (fun r => r = .ofChannel .claim c ∨ r = .ofChannel .release c ∨ r = .ofChannel .state c) s.tx t.tx ∧
        (t.elements[c].heat ≠ e.heat → t.asked (.ofChannel .state c) = true) ∧
        (level = 0 → asksClaim e.heat = false → t.elements[c] = { e with heat := .off, level := 0, claim := none }) ∧
        (level = 0 → asksClaim e.heat = true →
          t.elements[c] = { e with heat := .off, level := 0, claim := none, relay := false } ∧ releases t) ∧
        (0 < level → e.heat = .off → s.loader.options.channels[c].demandUsed = true → e.demand = false →
          t.elements[c] = { e with heat := .satisfied, level := level, claim := some content }) ∧
        (0 < level → e.heat = .off → (s.loader.options.channels[c].demandUsed = false ∨ e.demand = true) →
          t.elements[c] = { e with heat := .claiming, level := level, claim := some content } ∧ claims t) ∧
        (0 < level → e.heat ≠ .off → t.elements[c] = { e with level := level, claim := some content }) ∧
        (0 < level → asksClaim e.heat = true → level ≠ e.level → claims t) ∧
        ((level = 0 ∧ e.heat = .off) ∨ (0 < level ∧ e.heat = .satisfied) ∨ (0 < level ∧ asksClaim e.heat = true ∧ level = e.level) →
          t.tx = s.tx))

/-- The demand sample of a burst start and the relay of every event at an ELEMENT channel. The sample (R81, R82): stored in every heat
state; inactive it takes a channel that asks to SATISFIED, relay open and release-pending set, active it takes SATISFIED to CLAIMING
with claim-pending set. The relay (R86): closed exactly when ADMITTED, placed in the phase's slot, locked and in RUN; at a burst start
it reads the map that the swap installs (R71). A sample behind the swap finds the channel's result taken (R70). -/
def Obligations.SampleAndRelayFollowTheRules : Prop :=
  ∀ (c : Channel) (s : State),
    let e := s.elements[c]
    (s.base.phase ≠ 0 ∨ s.kind c ≠ .element ∨ s.loader.options.channels[c].demandUsed = false →
      takeOne (.sample c) s = s) ∧
    (s.base.phase = 0 → s.kind c = .element → s.loader.options.channels[c].demandUsed = true → s.event.swapped = true →
      takeOne (.sample c) s = takeOne (.sample c) (takeOne (.result c) s)) ∧
    (s.base.phase = 0 → s.kind c = .element → s.loader.options.channels[c].demandUsed = true → s.event.results[c] = none →
      ∃ t, takeOne (.sample c) s = t ∧
        t = { s with elements := s.elements.set c t.elements[c], tx := t.tx } ∧
        onlyFlags (fun r => r = .ofChannel .claim c ∨ r = .ofChannel .release c) s.tx t.tx ∧
        (asksClaim e.heat = true → s.pins.sense[c] = false →
          t.elements[c] = { e with demand := false, heat := .satisfied, relay := false } ∧
          t.asked (.ofChannel .release c) = true ∧ t.asked (.ofChannel .claim c) = false) ∧
        (e.heat = .satisfied → s.pins.sense[c] = true →
          t.elements[c] = { e with demand := true, heat := .claiming } ∧
          t.asked (.ofChannel .claim c) = true ∧ t.asked (.ofChannel .release c) = false) ∧
        (e.heat = .off ∨ (asksClaim e.heat = true ∧ s.pins.sense[c] = true) ∨
            (e.heat = .satisfied ∧ s.pins.sense[c] = false) →
          t = { s with elements := s.elements.set c { e with demand := s.pins.sense[c] } })) ∧
    (s.base.phase ≠ 0 ∨ s.event.swapped = true → s.kind c = .element →
      takeOne (.relay c) s = { s with elements := s.elements.set c { e with relay :=
        e.heat == .admitted && ((placedSlots s.plan.current (s.ownKey c)).getD []).contains s.base.phase &&
        s.locked && s.inRun } }) ∧
    takeOne (.relay c) s = takeOne (.relay c) (takeOne .swap s)

/-! ## Gas channels and the spark (chapter 6) -/

/-- GAS_HANDOVER (R102, R108 to R110): the sequencer takes the oldest level handed to it (log 13) and records it. In OFF a level
above 0 starts WAIT-SPARK with attempts 0, spark-pending set and the stray-flame test made; level 0 in any state but OFF and LOCKOUT
ends the wish, valve closed, spark off, countdown and spark-pending cleared, spark-free-pending set for a queued key; in every other
case the level is only recorded. With nothing handed, or not on a GAS channel, the command changes nothing (log 3). A hand-over that
comes inside a half-cycle event, at the place its order names (R116), has the same effect, with its reports. In START-UP and
CONFIG-FAULT no hand-over reaches the sequencer (R44, R115). -/
def Obligations.GasHandoverStartsOrEndsTheWish : Prop :=
  (∀ (c : Channel) (s : State), s.loader.held = false → s.event.due = none → s.kind c = .gas →
    exec (.gasHandover c) s = .next (noteReports s (takeOne (.handover c) s))) ∧
  (∀ (c : Channel) (s : State), s.ready → s.active = false → exec (.gasHandover c) s = .next s) ∧
  ∀ (c : Channel) (s : State), s.ready → s.active = true →
    (s.kind c ≠ .gas ∨ s.handovers[c] = [] → exec (.gasHandover c) s = .next s) ∧
    (∀ level rest, s.kind c = .gas → s.handovers[c] = level :: rest →
      let g := s.gas[c]
      ∃ t, exec (.gasHandover c) s = .next t ∧
        t = { s with
          gas := s.gas.set c t.gas[c], handovers := s.handovers.set c rest, tx := t.tx
          arbiter := { s.arbiter with
            freeOutstanding := s.arbiter.freeOutstanding.set c t.arbiter.freeOutstanding[c] } } ∧
        onlyFlags (fun r => r = .ofChannel .spark c ∨ r = .ofChannel .sparkFree c ∨ r = .ofChannel .state c) s.tx t.tx ∧
        (t.gas[c].heat ≠ g.heat ∨ t.gas[c].stray ≠ g.stray → t.asked (.ofChannel .state c) = true) ∧
        (g.heat = .off → 0 < level →
          t.gas[c] = { g with
            heat := .waitSpark, level := level, attempts := 0, countdown := none, stray := g.stray || g.flame } ∧
          t.asked (.ofChannel .spark c) = true ∧ t.arbiter = s.arbiter ∧
          flagOf t.tx (.ofChannel .sparkFree c) = flagOf s.tx (.ofChannel .sparkFree c)) ∧
        (g.heat ≠ .off → g.heat ≠ .lockout → level = 0 →
          t.gas[c] = { g with
            heat := .off, level := 0, valve := false, spark := false, countdown := none, stray := false } ∧
          t.asked (.ofChannel .spark c) = false ∧
          (s.ownKey c ∈ s.arbiter.queue →
            t.asked (.ofChannel .sparkFree c) = true ∧ t.arbiter.freeOutstanding[c] = true) ∧
          (s.ownKey c ∉ s.arbiter.queue → t.arbiter = s.arbiter ∧
            flagOf t.tx (.ofChannel .sparkFree c) = flagOf s.tx (.ofChannel .sparkFree c))) ∧
        ((g.heat = .off ∧ level = 0) ∨ g.heat = .lockout ∨ (g.heat ≠ .off ∧ 0 < level) →
          t.gas[c] = { g with level := level } ∧ t.tx = s.tx ∧ t.arbiter = s.arbiter))

/-- SPARK_START_POINT (R101, R103, R107, R108, R114): the half-cycle's start point, once, at the node's defer by the phase that the
half-cycle's event set (R142, log 15); at another moment nothing happens (log 3). The own gas channel at the head, with RUN and
a lock and neither spark-free-pending nor free-outstanding: lit by no flame it starts unless the busy line is active, which is
counted as a conflict; a flame in WAIT-SPARK makes it give way; nothing else happens, and to no other channel. In START-UP and
CONFIG-FAULT there is no start point (R115). -/
def Obligations.StartPointLightsTheHeadBurner : Prop :=
  (∀ (p : StartPoint) (s : State), s.ready → s.active = false → exec (.sparkStartPoint p) s = .next s) ∧
  ∀ (bits : Nat) (busy : Bool) (c : Channel) (s : State), s.ready → s.active = true →
    let deferBits := 4 + 2 * ((s.loader.options.address.val + 16 - s.base.eventPhase % 16) % 16)
    let seen : State :=
      { s with pins := { s.pins with sparkBusy := busy }, event := { s.event with startPoint := false } }
    let g := s.gas[c]
    let head := s.arbiter.queue.head? = some (s.ownKey c) ∧ s.kind c = .gas
    let enabled := head ∧ s.inRun = true ∧ s.locked = true ∧ s.asked (.ofChannel .sparkFree c) = false ∧
      s.arbiter.freeOutstanding[c] = false
    let waits := g.heat = .waitSpark ∨ g.heat = .relightWait ∨ (g.heat = .ignite ∧ g.spark = false) ∨
      (g.heat = .relightSpark ∧ g.spark = false)
    let line := busy = true ∨ s.sparkEnable = true
    (s.event.startPoint = false ∨ bits ≠ deferBits → exec (.sparkStartPoint { bits := bits, busy := busy }) s = .next s) ∧
    (s.event.startPoint = true → bits = deferBits →
      (∀ d : Channel, ¬ (s.arbiter.queue.head? = some (s.ownKey d) ∧ s.kind d = .gas)) →
      exec (.sparkStartPoint { bits := bits, busy := busy }) s = .next seen) ∧
    (s.event.startPoint = true → bits = deferBits → head → ∃ t, exec (.sparkStartPoint { bits := bits, busy := busy }) s = .next t ∧
      t = { seen with
        gas := s.gas.set c t.gas[c], tx := t.tx, counters := t.counters
        arbiter := { s.arbiter with freeOutstanding := s.arbiter.freeOutstanding.set c t.arbiter.freeOutstanding[c] } } ∧
      onlyFlags (fun r => r = .ofChannel .spark c ∨ r = .ofChannel .sparkFree c ∨ r = .ofChannel .state c) s.tx t.tx ∧
      (¬ enabled ∨ (g.flame = true ∧ g.heat ≠ .waitSpark) ∨ (g.flame = false ∧ ¬ waits) → t = seen) ∧
      (enabled → g.flame = true → g.heat = .waitSpark → t.gas[c] = g ∧ t.counters = s.counters ∧
        t.asked (.ofChannel .spark c) = true ∧ t.asked (.ofChannel .sparkFree c) = true ∧
        t.arbiter.freeOutstanding[c] = true) ∧
      (enabled → g.flame = false → waits → line →
        t = { seen with counters := { s.counters with sparkConflicts := saturate s.counters.sparkConflicts } }) ∧
      (enabled → g.flame = false → waits → ¬ line →
        t.counters = s.counters ∧ t.arbiter = s.arbiter ∧ onlyFlags (fun r => r = .ofChannel .state c) s.tx t.tx ∧
        (g.heat = .waitSpark → t.asked (.ofChannel .state c) = true ∧ t.gas[c] = { g with
          heat := .ignite, spark := true, stray := false, valve := true
          step := s.loader.options.ignitionStep, latched := s.loader.options.ignitionStep
          countdown := some { window := .ignition, left := s.loader.options.ignitionSeconds * s.base.eventRate } }) ∧
        (g.heat = .relightWait → t.asked (.ofChannel .state c) = true ∧
          t.gas[c] = { g with heat := .relightSpark, spark := true }) ∧
        (g.heat = .ignite ∨ g.heat = .relightSpark → t.gas[c] = { g with spark := true })))

/-- The flame sample of a half-cycle event (R94, R95): a sample that agrees clears the disagreeing run, one that differs adds 1, and
the flame's appearance comes due at the fourth, its disappearance at the second. With no change a running countdown is decreased,
its window's end due at 0, and a PROVEN valve is set to the level in hand, the step lines latching it (R93). -/
def Obligations.FlameSampleDebouncesAndCountsDown : Prop :=
  ∀ (c : Channel) (s : State), s.kind c = .gas →
    let g := s.gas[c]
    let run := if s.pins.sense[c] = g.flame then 0 else g.run + 1
    let changes := s.pins.sense[c] ≠ g.flame ∧ (if g.flame then 2 else 4) ≤ g.run + 1
    ∃ t, takeOne (.flame c) s = t ∧ t = { s with gas := s.gas.set c t.gas[c], event := t.event } ∧
      (changes → t.gas[c] = { g with run := run } ∧
        t.event = { s.event with due := some (if g.flame then .flameAbsent c else .flamePresent c) }) ∧
      (¬ changes →
        t.gas[c] = { g with
          run := run, countdown := g.countdown.map fun w => { w with left := w.left - 1 }
          step := if g.heat = .proven then g.level else g.step
          latched := if g.heat = .proven then g.level else g.latched } ∧
        (∀ w, g.countdown = some w → 2 ≤ w.left → t.event = s.event) ∧ (g.countdown = none → t.event = s.event) ∧
        (∀ w, g.countdown = some w → w.left ≤ 1 → t.event = { s.event with due := some (match w.window with
          | .ignition => .ignitionEnd c
          | .purge => .purgeEnd c
          | .relight => .relightEnd c) }))

/-- The debounced flame becomes present (R104, R107, R108): IGNITE is PROVEN with the spark off, the valve at the level, attempts 0
and spark-free-pending set; a relight is PROVEN with its unsent spark-pending cleared; in WAIT-SPARK the stray indication is set; in
PURGE only the flame is recorded and the purge goes on, its end due at 0 (R94, R95, R105); in OFF and LOCKOUT only the flame is
recorded. In IGNITE spark-free-pending is set without a test (log 24). The law of countdowns rules out what no run reaches. The
event then goes on (`goOn`, O19). -/
def Obligations.FlameAppearingProvesTheBurner : Prop :=
  ∀ (c : Channel) (s : State), s.dueNow (.flamePresent c) → s.countdownsFit →
    let g := s.gas[c]
    let proven : GasSequencer := { g with
      heat := .proven, flame := true, run := 0, spark := false, step := g.level, latched := g.level, countdown := none }
    ∃ u, exec (.flameDebouncePresent c) s = .next (goOn u) ∧
      u = { s with
        gas := s.gas.set c u.gas[c], tx := u.tx, event := { s.event with due := u.event.due }
        arbiter := { s.arbiter with freeOutstanding := s.arbiter.freeOutstanding.set c u.arbiter.freeOutstanding[c] } } ∧
      onlyFlags (fun r => r = .ofChannel .spark c ∨ r = .ofChannel .sparkFree c ∨ r = .ofChannel .state c) s.tx u.tx ∧
      (g.heat ≠ .purge → u.event.due = none) ∧
      (g.heat = .ignite →
        u.gas[c] = { proven with attempts := 0 } ∧ u.asked (.ofChannel .sparkFree c) = true ∧
        u.arbiter.freeOutstanding[c] = true ∧
        flagOf u.tx (.ofChannel .spark c) = flagOf s.tx (.ofChannel .spark c)) ∧
      (g.heat = .relightWait ∨ g.heat = .relightSpark →
        u.gas[c] = proven ∧ u.asked (.ofChannel .spark c) = false ∧
        (s.ownKey c ∈ s.arbiter.queue →
          u.asked (.ofChannel .sparkFree c) = true ∧ u.arbiter.freeOutstanding[c] = true) ∧
        (s.ownKey c ∉ s.arbiter.queue → u.arbiter = s.arbiter ∧
          flagOf u.tx (.ofChannel .sparkFree c) = flagOf s.tx (.ofChannel .sparkFree c))) ∧
      (g.heat = .waitSpark → u.gas[c] = { g with flame := true, run := 0, stray := true }) ∧
      (g.heat = .off ∨ g.heat = .lockout → u.gas[c] = { g with flame := true, run := 0 }) ∧
      (∀ w, g.heat = .purge → g.countdown = some w →
        u.gas[c] = { g with flame := true, run := 0, countdown := some { w with left := w.left - 1 } } ∧
        u.event.due = if w.left ≤ 1 then some (.purgeEnd c) else none) ∧
      (g.heat = .proven → u.gas[c] = { g with flame := true, run := 0, step := g.level, latched := g.level }) ∧
      (g.heat = .waitSpark ∨ g.heat = .off ∨ g.heat = .lockout ∨ g.heat = .purge ∨ g.heat = .proven →
        u.arbiter = s.arbiter ∧ onlyFlags (fun r => r = .ofChannel .state c) s.tx u.tx) ∧
      (s.kind c = .gas → g.heat = .ignite ∨ g.heat = .relightWait ∨ g.heat = .relightSpark ∨
        (g.heat = .waitSpark ∧ g.stray = false) → u.asked (.ofChannel .state c) = true)

/-- The debounced flame becomes absent (R106): a PROVEN burner goes to RELIGHT-WAIT with its valve open at the ignition step, the
relight countdown started, spark-pending set and the loss counted; in OFF, WAIT-SPARK and LOCKOUT only the flame is recorded; no
other heat state changes, and its countdown goes on, the window's end due at 0 (R95). The event then goes on (`goOn`, O19). -/
def Obligations.FlameLossStartsTheRelightWindow : Prop :=
  ∀ (c : Channel) (s : State), s.dueNow (.flameAbsent c) → s.countdownsFit →
    let g := s.gas[c]
    ∃ u, exec (.flameDebounceAbsent c) s = .next (goOn u) ∧
      u = { s with
        gas := s.gas.set c u.gas[c], tx := u.tx, event := { s.event with due := u.event.due }, counters := u.counters } ∧
      (g.heat = .proven →
        u.gas[c] = { g with
          heat := .relightWait, flame := false, run := 0
          step := s.loader.options.ignitionStep, latched := s.loader.options.ignitionStep
          countdown := some { window := .relight, left := s.loader.options.relightSeconds * s.base.eventRate } } ∧
        u.asked (.ofChannel .spark c) = true ∧ (s.kind c = .gas → u.asked (.ofChannel .state c) = true) ∧
        onlyFlags (fun r => r = .ofChannel .spark c ∨ r = .ofChannel .state c) s.tx u.tx ∧
        u.counters = { s.counters with flameLosses := saturate s.counters.flameLosses } ∧ u.event.due = none) ∧
      (g.heat ≠ .proven → u.tx = s.tx ∧ u.counters = s.counters) ∧
      (g.heat = .off ∨ g.heat = .waitSpark ∨ g.heat = .lockout →
        u.gas[c] = { g with flame := false, run := 0 } ∧ u.event.due = none) ∧
      (∀ w, g.heat ≠ .proven → g.countdown = some w →
        u.gas[c] = { g with flame := false, run := 0, countdown := some { w with left := w.left - 1 } } ∧
        u.event.due = if 2 ≤ w.left then none else some (match w.window with
          | .ignition => .ignitionEnd c
          | .purge => .purgeEnd c
          | .relight => .relightEnd c))

/-- The ignition window ends (R104, R109, R42): the attempt fails with the valve closed, the spark off, attempts and ignition-fails
up by 1 and spark-free-pending set for a queued key; PURGE with its countdown while attempts are left, else LOCKOUT, which ends the
program with the fault ignition-lockout and hands level 0 where the level was another. Found outside IGNITE it ends nothing. The
event then goes on (`goOn`, O19). A report met by EMPTY or READY is log 17. -/
def Obligations.IgnitionWindowEndFailsTheAttempt : Prop :=
  ∀ (c : Channel) (s : State), s.dueNow (.ignitionEnd c) →
    let g := s.gas[c]
    let p := s.programs[c]
    let failed := { g with valve := false, spark := false, attempts := g.attempts + 1 }
    ∃ u, exec (.ignitionWindowEnd c) s = .next (goOn u) ∧
      u = { s with
        gas := s.gas.set c u.gas[c], programs := s.programs.set c u.programs[c]
        handovers := s.handovers.set c (handedOn p u.programs[c] s.handovers[c]), tx := u.tx, counters := u.counters
        arbiter := { s.arbiter with freeOutstanding := s.arbiter.freeOutstanding.set c u.arbiter.freeOutstanding[c] }
        event := { s.event with due := none } } ∧
      (g.heat ≠ .ignite → u = { s with event := { s.event with due := none } }) ∧
      (g.heat = .ignite →
        onlyFlags (fun r => r = .ofChannel .sparkFree c ∨ r = .ofChannel .state c) s.tx u.tx ∧
        u.counters = { s.counters with ignitionFails := saturate s.counters.ignitionFails } ∧
        (s.kind c = .gas → u.asked (.ofChannel .state c) = true) ∧
        (s.ownKey c ∈ s.arbiter.queue →
          u.asked (.ofChannel .sparkFree c) = true ∧ u.arbiter.freeOutstanding[c] = true) ∧
        (s.ownKey c ∉ s.arbiter.queue → u.arbiter = s.arbiter ∧
          flagOf u.tx (.ofChannel .sparkFree c) = flagOf s.tx (.ofChannel .sparkFree c)) ∧
        (g.attempts + 1 < s.loader.options.attempts → u.programs[c] = p ∧
          u.gas[c] = { failed with
            heat := .purge
            countdown := some { window := .purge, left := s.loader.options.purgeSeconds * s.base.eventRate } }) ∧
        (s.loader.options.attempts ≤ g.attempts + 1 →
          u.gas[c] = { failed with heat := .lockout, countdown := none } ∧
          (p.state = .running ∨ p.state = .held →
            u.programs[c] = { p with state := .ended, fault := .ignitionLockout, alert := false }) ∧
          (p.state = .ended → u.programs[c] = { p with fault := .ignitionLockout }) ∧
          (p.state = .empty ∨ p.state = .ready → u.programs[c] = p)))

/-- The purge and the relight window end (R105, R107, R109, R42): after the purge WAIT-SPARK with spark-pending set, attempts kept
and the stray-flame test made; at the relight window's end the valve closed, the spark off and LOCKOUT, which ends the program with
the fault flame-loss-lockout and hands level 0 where the level was another, spark-free-pending set for a queued key. Found in
another heat state they end nothing. The event then goes on (`goOn`, O19). A report met by EMPTY or READY is log 17. -/
def Obligations.PurgeAndRelightWindowsEnd : Prop :=
  ∀ (c : Channel) (s : State),
    let g := s.gas[c]
    let p := s.programs[c]
    (s.dueNow (.purgeEnd c) → ∃ u, exec (.purgeEnd c) s = .next (goOn u) ∧
      u = { s with gas := s.gas.set c u.gas[c], tx := u.tx, event := { s.event with due := none } } ∧
      (g.heat ≠ .purge → u.gas[c] = g ∧ u.tx = s.tx) ∧
      (g.heat = .purge →
        u.gas[c] = { g with heat := .waitSpark, countdown := none, stray := g.stray || g.flame } ∧
        onlyFlags (fun r => r = .ofChannel .spark c ∨ r = .ofChannel .state c) s.tx u.tx ∧
        u.asked (.ofChannel .spark c) = true ∧ (s.kind c = .gas → u.asked (.ofChannel .state c) = true))) ∧
    (s.dueNow (.relightEnd c) → ∃ u, exec (.relightWindowEnd c) s = .next (goOn u) ∧
      u = { s with
        gas := s.gas.set c u.gas[c], programs := s.programs.set c u.programs[c]
        handovers := s.handovers.set c (handedOn p u.programs[c] s.handovers[c]), tx := u.tx
        arbiter := { s.arbiter with freeOutstanding := s.arbiter.freeOutstanding.set c u.arbiter.freeOutstanding[c] }
        event := { s.event with due := none } } ∧
      (g.heat ≠ .relightWait → g.heat ≠ .relightSpark → u = { s with event := { s.event with due := none } }) ∧
      (g.heat = .relightWait ∨ g.heat = .relightSpark →
        u.gas[c] = { g with heat := .lockout, valve := false, spark := false, countdown := none } ∧
        onlyFlags (fun r => r = .ofChannel .sparkFree c ∨ r = .ofChannel .state c) s.tx u.tx ∧
        (s.kind c = .gas → u.asked (.ofChannel .state c) = true) ∧
        (s.ownKey c ∈ s.arbiter.queue →
          u.asked (.ofChannel .sparkFree c) = true ∧ u.arbiter.freeOutstanding[c] = true) ∧
        (s.ownKey c ∉ s.arbiter.queue → u.arbiter = s.arbiter ∧
          flagOf u.tx (.ofChannel .sparkFree c) = flagOf s.tx (.ofChannel .sparkFree c)) ∧
        (p.state = .running ∨ p.state = .held →
          u.programs[c] = { p with state := .ended, fault := .flameLossLockout, alert := false }) ∧
        (p.state = .ended → u.programs[c] = { p with fault := .flameLossLockout }) ∧
        (p.state = .empty ∨ p.state = .ready → u.programs[c] = p)))

/-- The Arbiter's taking of a half-cycle event (R100): with keys queued the head dwell goes up by 1, and the hold limit is due where
it has come to ten times the tick rate handed with the event; an empty queue takes nothing. The hold limit (R100, R111): the head is
removed, the conflict counted and the next head's dwell begins at 0; an own head acts by its heat state: waiting it asks again, in
RELIGHT-SPARK it falls back to RELIGHT-WAIT and asks again, in IGNITE the attempt has failed (R104), with PURGE or LOCKOUT, the
program ended by a lockout and level 0 handed (R42), else nothing. The event then goes on (`goOn`, O19). A lockout report met by
EMPTY or READY is log 17. -/
def Obligations.HoldLimitRemovesTheHead : Prop :=
  (∀ s : State,
    (s.arbiter.queue = [] → takeOne .dwell s = s) ∧
    (s.arbiter.queue ≠ [] → takeOne .dwell s = { s with
      arbiter := { s.arbiter with dwell := s.arbiter.dwell + 1 }
      event := { s.event with
        due := if 10 * s.base.eventRate ≤ s.arbiter.dwell + 1 then some .holdLimit else s.event.due } })) ∧
  ∀ (k : Key) (rest : List Key) (s : State), s.dueNow .holdLimit → s.arbiter.queue = k :: rest → s.queueUnique →
    let conflict := { s.counters with sparkConflicts := saturate s.counters.sparkConflicts }
    let g := s.gas[k.channel]
    let p := s.programs[k.channel]
    let own := k.station = s.loader.options.address
    ∃ u, exec .holdLimit s = .next (goOn u) ∧
      (¬ own → u = { s with
        arbiter := { s.arbiter with queue := rest, dwell := 0 }, counters := conflict
        event := { s.event with due := none } }) ∧
      (own → u = { s with
          gas := s.gas.set k.channel u.gas[k.channel], programs := s.programs.set k.channel u.programs[k.channel]
          handovers := s.handovers.set k.channel (handedOn p u.programs[k.channel] s.handovers[k.channel])
          arbiter :=
            { s.arbiter with queue := rest, dwell := 0, freeOutstanding := s.arbiter.freeOutstanding.set k.channel false }
          tx := u.tx, counters := u.counters, event := { s.event with due := none } }) ∧
      (own → s.kind k.channel = .gas → g.heat = .waitSpark ∨ g.heat = .relightWait ∨ g.heat = .relightSpark →
        u.asked (.ofChannel .spark k.channel) = true ∧ u.programs[k.channel] = p ∧ u.counters = conflict ∧
        onlyFlags (fun r => r = .ofChannel .spark k.channel ∨ (g.heat = .relightSpark ∧ r = .ofChannel .state k.channel))
          s.tx u.tx ∧
        u.gas[k.channel] = (if g.heat = .relightSpark then { g with heat := .relightWait, spark := false } else g) ∧
        (g.heat = .relightSpark → u.asked (.ofChannel .state k.channel) = true)) ∧
      (own → s.kind k.channel = .gas → g.heat = .ignite →
        u.counters = { conflict with ignitionFails := saturate s.counters.ignitionFails } ∧
        u.asked (.ofChannel .state k.channel) = true ∧
        onlyFlags (fun r => r = .ofChannel .state k.channel) s.tx u.tx ∧
        (g.attempts + 1 < s.loader.options.attempts → u.programs[k.channel] = p ∧
          u.gas[k.channel] = { g with
            heat := .purge, valve := false, spark := false, attempts := g.attempts + 1
            countdown := some { window := .purge, left := s.loader.options.purgeSeconds * s.base.eventRate } }) ∧
        (s.loader.options.attempts ≤ g.attempts + 1 →
          u.gas[k.channel] =
            { g with heat := .lockout, valve := false, spark := false, attempts := g.attempts + 1, countdown := none } ∧
          (p.state = .running ∨ p.state = .held →
            u.programs[k.channel] = { p with state := .ended, fault := .ignitionLockout, alert := false }) ∧
          (p.state = .ended → u.programs[k.channel] = { p with fault := .ignitionLockout }) ∧
          (p.state = .empty ∨ p.state = .ready → u.programs[k.channel] = p))) ∧
      (own → s.kind k.channel ≠ .gas ∨ g.heat = .off ∨ g.heat = .proven ∨ g.heat = .purge ∨ g.heat = .lockout →
        u.gas[k.channel] = g ∧ u.programs[k.channel] = p ∧ u.tx = s.tx ∧ u.counters = conflict)

/-- SPARK and SPARK-FREE (R97): from 8..15 or with a channel above 3 they are only removed; a SPARK appends an absent key at the
tail and leaves a present one where it stands, a SPARK-FREE removes the key wherever it stands; an own one clears free-outstanding,
unless the standing rule asks for the key's removal at once (R112). A new head's dwell begins at 0, and a head that stays keeps its
dwell (R100). -/
def Obligations.SparkNoticesMoveKeysInTheQueue : Prop :=
  ∀ (f : RxFrame) (rest : List RxFrame) (k : Key) (s : State),
    (s.delivers .spark f rest → 8 ≤ f.source.val ∨ 4 ≤ (charAt f.body 0).toNat →
      exec .spark s = .next (s.popped rest)) ∧
    (s.delivers .sparkFree f rest → 8 ≤ f.source.val ∨ 4 ≤ (charAt f.body 0).toNat →
      exec .sparkFree s = .next (s.popped rest)) ∧
    (k.station.val = f.source.val → k.channel.val = (charAt f.body 0).toNat →
      (s.delivers .spark f rest → ∃ t, exec .spark s = .next t ∧
        t = { s.popped rest with arbiter := t.arbiter, tx := t.tx } ∧
        t.arbiter.queue = (if k ∈ s.arbiter.queue then s.arbiter.queue else s.arbiter.queue ++ [k]) ∧
        t.arbiter.dwell = (if s.arbiter.queue = [] then 0 else s.arbiter.dwell) ∧
        (s.isOwn f.source = false → t.tx = s.tx ∧ t.arbiter.freeOutstanding = s.arbiter.freeOutstanding) ∧
        (s.isOwn f.source = true →
          (∀ d, d ≠ k.channel → t.arbiter.freeOutstanding[d] = s.arbiter.freeOutstanding[d]) ∧
          onlyFlags (fun r => r = .ofChannel .sparkFree k.channel) s.tx t.tx ∧
          (wantsSpark s.gas[k.channel].heat = true → t.tx = s.tx ∧ t.arbiter.freeOutstanding[k.channel] = false) ∧
          (s.kind k.channel = .gas → wantsSpark s.gas[k.channel].heat = false →
            t.asked (.ofChannel .sparkFree k.channel) = true))) ∧
      (s.delivers .sparkFree f rest → ∃ t, exec .sparkFree s = .next t ∧
        t = { s.popped rest with arbiter := t.arbiter } ∧
        t.arbiter.queue = s.arbiter.queue.filter (fun q => q ≠ k) ∧
        (s.arbiter.queue.head? = some k → t.arbiter.dwell = 0) ∧
        (s.arbiter.queue.head? ≠ some k → t.arbiter.dwell = s.arbiter.dwell) ∧
        (s.isOwn f.source = false → t.arbiter.freeOutstanding = s.arbiter.freeOutstanding) ∧
        (s.isOwn f.source = true →
          t.arbiter.freeOutstanding = s.arbiter.freeOutstanding.set k.channel false)))

/-- No output is ever on outside the states that allow it (R86, R90, R93, R101, R171): a valve is open only in IGNITE, PROVEN,
RELIGHT-WAIT and RELIGHT-SPARK, a spark is on only in IGNITE and RELIGHT-SPARK, a relay is closed only while ADMITTED, each in RUN
alone. Every step keeps it, and keeps a countdown of the kind of its heat state. -/
def Obligations.OutputsStayGuarded : Prop :=
  (∀ s t : State, s.outputsSafe → step s = .next t → t.outputsSafe) ∧
  (∀ s t : State, s.countdownsFit → step s = .next t → t.countdownsFit)

/-! ## Peers and presence (chapter 7) -/

/-- A PRESENCE from another address (R119, R120): its record, and no other; from a node the carried budget, B code and P (8 where the
carried one is not 2..8) and a silence countdown of 3 P, from 8..15 a countdown of 24; the derived values then agree with the
records. The own PRESENCE changes no record (R130). -/
def Obligations.PresenceRecordsThePeer : Prop :=
  ∀ (f : RxFrame) (rest : List RxFrame) (s : State), s.delivers .presence f rest →
    let n := presenceInterval f.body
    let p := if 2 ≤ n ∧ n ≤ 8 then n else 8
    (s.isOwn f.source = false → ∃ t, exec .presence s = .next t ∧
      (∀ b : Station, b ≠ f.source → t.peers.records[b] = s.peers.records[b]) ∧
      t.peers.presenceCount = s.peers.presenceCount ∧ t.derivedFit ∧
      (f.source.val < 8 → t.peers.records[f.source] =
        { present := true, countdown := 3 * p, budget := some (presenceBudget f.body)
          bCode := some (presenceBCode f.body), interval := some p }) ∧
      (8 ≤ f.source.val →
        t = { s.popped rest with peers := t.peers, plan := { s.plan with budget := t.plan.budget } } ∧
        t.peers.records[f.source] = { present := true, countdown := 24, budget := none, bCode := none, interval := none })) ∧
    (s.isOwn f.source = true → ∃ t, exec .presence s = .next t ∧
      t.peers.records = s.peers.records ∧ t.peers.presenceCount = s.peers.presenceCount ∧ (f.own = true → t.derivedFit))

/-- The rest of a PRESENCE from a node. From the phase source the phase moves by the carried less the opener phase modulo B, where
they differ: both maps cleared, every relay open, the adjustment counted (R16, R17); from no other. The station's four claim entries
are restated from the summaries (R52) and its spark keys follow the queued indications, those that stay keeping their places and new
ones joining at the tail in channel order (R98); other stations' entries and keys are left. A head that stays keeps its dwell, and a new
head's dwell is 0 (R100). The own echo restates alike and moves no phase (R53, R130). An own key it removes is no longer outstanding
(R97) and acts on its channel (R111): waiting it asks again, in RELIGHT-SPARK it falls back to RELIGHT-WAIT and asks again, in IGNITE
the attempt has failed (R104), with PURGE or LOCKOUT, the program ended by a lockout and level 0 handed (R42), in any other heat
state nothing. An own key it appends for a channel that does not want the spark has spark-free-pending set (R112), and an own entry
it inserts or changes for a channel in OFF or SATISFIED has release-pending set (R85), each where it is not set already. State-pending
is set where the heat state changes (R161). A lockout report met by EMPTY or READY is log 17. The fields are where section 9.6 puts
them (R151, R152). -/
def Obligations.PresenceAdoptsAndRestates : Prop :=
  (∀ body : List Byte,
    let b : Nat → Nat := fun i => (body.getD i 0).toNat
    presencePhase body = b 0 ∧ presenceInterval body = b 1 / 16 ∧ presenceBCode body = b 1 % 4 ∧ presenceBudget body = b 3 ∧
    ∀ c : Channel, readSummary body c =
      { kindField := b (4 + 3 * c.val) % 4, claimed := decide (b (4 + 3 * c.val) / 4 % 2 = 1), cls := b (4 + 3 * c.val) / 16 % 4
        queued := decide (b (4 + 3 * c.val) / 64 % 2 = 1), current := b (5 + 3 * c.val), slots := b (6 + 3 * c.val) }) ∧
  ∀ (f : RxFrame) (rest : List RxFrame) (st : Fin 8) (s : State), s.delivers .presence f rest → st.val = f.source.val →
    let shift : Int := ((presencePhase f.body : Int) - f.openerPhase) % s.burst
    let key : Channel → Key := fun c => { station := st, channel := c }
    let restated : State → Prop := fun t =>
      (∀ q : Key, q.station ≠ st →
        findEntry q t.plan.table = findEntry q s.plan.table ∧ (q ∈ t.arbiter.queue ↔ q ∈ s.arbiter.queue)) ∧
      t.arbiter.queue =
        s.arbiter.queue.filter (fun q => q.station ≠ st ∨ (readSummary f.body q.channel).queued = true) ++
        (allChannels.filter fun c => (readSummary f.body c).queued = true ∧ key c ∉ s.arbiter.queue).map key ∧
      t.arbiter.dwell = (if t.arbiter.queue.head? = s.arbiter.queue.head? then s.arbiter.dwell else 0) ∧
      ∀ c : Channel,
        let m := readSummary f.body c
        let claims := m.kindField = 1 ∧ m.claimed = true
        let inRange := m.cls ≤ 3 ∧ 1 ≤ m.current ∧ m.current ≤ 250 ∧ 1 ≤ m.slots ∧ m.slots ≤ s.burst
        (key c ∈ t.arbiter.queue ↔ m.queued = true) ∧
        (claims → inRange → findEntry (key c) t.plan.table = some
          { key := key c, current := m.current, slots := m.slots, cls := m.cls
            placedLast := entryFlag (key c) s.plan.table }) ∧
        (claims → ¬ inRange → findEntry (key c) t.plan.table = findEntry (key c) s.plan.table) ∧
        (¬ claims → findEntry (key c) t.plan.table = none)
    (s.isOwn f.source = false → ∃ t, exec .presence s = .next t ∧ restated t ∧
      t = { s.popped rest with
        base := { s.base with phase := t.base.phase }, elements := t.elements, plan := t.plan, peers := t.peers
        arbiter := { s.arbiter with queue := t.arbiter.queue, dwell := t.arbiter.dwell }, counters := t.counters } ∧
      (t.peers.phaseSource ≠ some f.source ∨ shift = 0 →
        t.base = s.base ∧ t.elements = s.elements ∧ t.counters = s.counters ∧
        t.plan = { s.plan with table := t.plan.table, budget := t.plan.budget }) ∧
      (t.peers.phaseSource = some f.source → shift ≠ 0 →
        (t.base.phase : Int) = (s.base.phase + shift) % s.burst ∧
        (∀ c : Channel, t.elements[c] = { s.elements[c] with relay := false }) ∧
        t.counters = { s.counters with phaseAdjusts := saturate s.counters.phaseAdjusts } ∧
        t.plan = { s.plan with
          table := t.plan.table, budget := t.plan.budget, current := [], next := [], computed := false })) ∧
    (s.isOwn f.source = true → f.own = true →
      let lost : Channel → Prop := fun c =>
        s.kind c = .gas ∧ key c ∈ s.arbiter.queue ∧ (readSummary f.body c).queued = false
      ∃ t, exec .presence s = .next t ∧ restated t ∧
      t = { s.popped rest with
        programs := t.programs, handovers := t.handovers, gas := t.gas, tx := t.tx, peers := t.peers, arbiter := t.arbiter
        plan := { s.plan with table := t.plan.table, budget := t.plan.budget }
        counters := { s.counters with ignitionFails := t.counters.ignitionFails } } ∧
      t.counters.ignitionFails = saturate^[(allChannels.filter fun c => s.kind c = .gas ∧ key c ∈ s.arbiter.queue ∧
        (readSummary f.body c).queued = false ∧ s.gas[c].heat = .ignite).length] s.counters.ignitionFails ∧
      onlyFlags (fun r => ∃ c, r = .ofChannel .release c ∨ r = .ofChannel .claim c ∨ r = .ofChannel .spark c ∨
        r = .ofChannel .sparkFree c ∨ r = .ofChannel .state c) s.tx t.tx ∧
      ∀ c : Channel,
        let g := s.gas[c]
        let p := s.programs[c]
        let asks := lost c ∧ (g.heat = .waitSpark ∨ g.heat = .relightWait ∨ g.heat = .relightSpark)
        let fails := lost c ∧ g.heat = .ignite
        let falls := lost c ∧ g.heat = .relightSpark
        let frees := s.kind c = .gas ∧ key c ∉ s.arbiter.queue ∧ (readSummary f.body c).queued = true ∧
          wantsSpark g.heat = false ∧ s.asked (.ofChannel .sparkFree c) = false
        let releases := s.kind c = .element ∧ asksClaim s.elements[c].heat = false ∧
          s.asked (.ofChannel .release c) = false ∧ findEntry (key c) t.plan.table ≠ none ∧
          findEntry (key c) t.plan.table ≠ findEntry (key c) s.plan.table
        let flag : ChannelRequest → Flag := fun k => flagOf s.tx (.ofChannel k c)
        let flag' : ChannelRequest → Flag := fun k => flagOf t.tx (.ofChannel k c)
        (falls → t.gas[c] = { g with heat := .relightWait, spark := false }) ∧
        (fails → g.attempts + 1 < s.loader.options.attempts → t.programs[c] = p ∧
          t.gas[c] = { g with
            heat := .purge, valve := false, spark := false, attempts := g.attempts + 1
            countdown := some { window := .purge, left := s.loader.options.purgeSeconds * s.base.eventRate } }) ∧
        (fails → s.loader.options.attempts ≤ g.attempts + 1 →
          t.gas[c] = { g with heat := .lockout, valve := false, spark := false, attempts := g.attempts + 1, countdown := none } ∧
          (p.state = .running ∨ p.state = .held →
            t.programs[c] = { p with state := .ended, fault := .ignitionLockout, alert := false }) ∧
          (p.state = .ended → t.programs[c] = { p with fault := .ignitionLockout }) ∧
          (p.state = .empty ∨ p.state = .ready → t.programs[c] = p)) ∧
        (¬ falls → ¬ fails → t.gas[c] = g) ∧ (¬ fails → t.programs[c] = p) ∧
        t.handovers[c] = handedOn p t.programs[c] s.handovers[c] ∧
        (key c ∈ s.arbiter.queue → t.arbiter.freeOutstanding[c] =
          (s.arbiter.freeOutstanding[c] && (readSummary f.body c).queued)) ∧
        (asks → flag' .spark = raised (flag .spark)) ∧ (¬ asks → flag' .spark = flag .spark) ∧
        (frees → flag' .sparkFree = raised (flag .sparkFree) ∧ t.arbiter.freeOutstanding[c] = true) ∧
        (¬ frees → flag' .sparkFree = flag .sparkFree ∧
          (key c ∉ s.arbiter.queue → t.arbiter.freeOutstanding[c] = s.arbiter.freeOutstanding[c])) ∧
        (releases → flag' .release = raised (flag .release) ∧ flag' .claim = lowered (flag .claim)) ∧
        (¬ releases → flag' .release = flag .release ∧ flag' .claim = flag .claim) ∧
        (falls ∨ fails → t.asked (.ofChannel .state c) = true) ∧ (¬ falls → ¬ fails → flag' .state = flag .state))

/-- Silence (R121, R122): a burst start takes 1 from the silence countdown of each present station, and the departure is due at 0. A
departure clears the record, and for a node removes the station's claim entries and spark keys and leaves derived values that
agree with the records; a head of the spark queue that stays keeps its dwell (R100). The event then goes on (`goOn`, O19). -/
def Obligations.SilenceRemovesTheStation : Prop :=
  ∀ (a : Station) (s : State),
    let r := s.peers.records[a]
    let gone := s.peers.records.set a { present := false, countdown := 0, budget := none, bCode := none, interval := none }
    (s.base.phase ≠ 0 ∨ r.present = false → takeOne (.silence a) s = s) ∧
    (s.base.phase = 0 → r.present = true → takeOne (.silence a) s = { s with
      peers := { s.peers with records := s.peers.records.set a { r with countdown := r.countdown - 1 } }
      event := { s.event with due := if r.countdown ≤ 1 then some (.departure a) else s.event.due } }) ∧
    (s.dueNow (.departure a) → 8 ≤ a.val → exec (.silenceDeparture a) s = .next (goOn { s with
      peers := { s.peers with records := gone }, event := { s.event with due := none } })) ∧
    (s.dueNow (.departure a) → a.val < 8 → ∃ u, exec (.silenceDeparture a) s = .next (goOn u) ∧
      u = { s with
        peers := { u.peers with records := gone, presenceCount := s.peers.presenceCount }
        plan := { s.plan with table := s.plan.table.filter (fun e => e.key.station.val ≠ a.val), budget := u.plan.budget }
        arbiter := { s.arbiter with
          queue := s.arbiter.queue.filter (fun k => k.station.val ≠ a.val), dwell := u.arbiter.dwell }
        event := { s.event with due := none } } ∧
      u.derivedFit ∧
      (u.arbiter.queue ≠ [] → u.arbiter.queue.head? = s.arbiter.queue.head? → u.arbiter.dwell = s.arbiter.dwell) ∧
      (u.arbiter.queue = [] ∨ u.arbiter.queue.head? ≠ s.arbiter.queue.head? → u.arbiter.dwell = 0))

/-- The burst starts of LISTEN and the presence count (R174, R128, R162): at the eighth burst start in LISTEN the entry into RUN is
due, which sets presence-due, clears the presence count and sets state-pending for every used channel; in RUN every burst start adds
1 to the presence count, and at P presence-due falls due, which sets the flag and returns the count to 0. The event then goes on
(`goOn`, O19). -/
def Obligations.ListenEndsInRunAndPresenceFallsDue : Prop :=
  ∀ s : State,
    let n := s.loader.listenCount + 1
    let m := s.peers.presenceCount + 1
    (s.base.phase ≠ 0 ∨ s.loader.node ≠ .listen → takeOne .listen s = s) ∧
    (s.base.phase = 0 → s.loader.node = .listen → takeOne .listen s = { s with
      loader := { s.loader with listenCount := n }
      event := { s.event with due := if 8 ≤ n then some .listenEnd else s.event.due } }) ∧
    (s.base.phase ≠ 0 ∨ s.inRun = false → takeOne .presence s = s) ∧
    (s.base.phase = 0 → s.inRun = true → takeOne .presence s = { s with
      peers := { s.peers with presenceCount := m }
      event := { s.event with due := if s.loader.options.interval ≤ m then some .presenceDue else s.event.due } }) ∧
    (s.dueNow .listenEnd → ∃ u, exec .listenCountEnd s = .next (goOn u) ∧
      u = { s with
        loader := { s.loader with node := .run }, peers := { s.peers with presenceCount := 0 }, tx := u.tx
        event := { s.event with due := none } } ∧
      u.asked .presence = true ∧ (∀ c : Channel, s.used c = true → u.asked (.ofChannel .state c) = true) ∧
      onlyFlags (fun r => r = .presence ∨ ∃ c, s.used c = true ∧ r = .ofChannel .state c) s.tx u.tx) ∧
    (s.dueNow .presenceDue → ∃ u, exec .presenceCountDue s = .next (goOn u) ∧
      u = { s with
        peers := { s.peers with presenceCount := 0 }, tx := u.tx, event := { s.event with due := none } } ∧
      u.asked .presence = true ∧ onlyFlags (fun r => r = .presence) s.tx u.tx)

/-! ## The range line (chapter 8) -/

/-- The Line Receiver of a node that sends nothing (R135): an opener in HUNT begins a frame with the phase as the opener phase (the
phase at the OPENER command: log 34, DESIGN CHOICE), a framing error in FRAME discards it into RESYNC and is counted (in a check
character too: log 29, DESIGN CHOICE), a gap in FRAME discards it into HUNT and is counted, a quiet line ends RESYNC; otherwise
these change nothing but the line-busy indication and that the line has been heard. The indication (R133) at a character's stop bit
is busy where the stop bit or one of the two data bits before it is dominant (log 14), and falls where nothing follows; a second
character since the half-cycle event, or one that leaves the line busy, is remembered by the quiet test (log 14). In FRAME an opener
character is one of the frame's characters. In START-UP and CONFIG-FAULT nothing is received. -/
def Obligations.ReceiverFollowsItsStates : Prop :=
  (∀ ch : LineChar, busyAfter ch = true ↔
    ch.framingError = true ∨ ch.byte.getLsbD 7 = false ∨ ch.byte.getLsbD 6 = false) ∧
  ∀ (b : Byte) (s : State), s.ready →
    let heard : Bool → State := fun busy => { s with receiver := s.receiver.hearing busy }
    let counted : Counters := { s.counters with checkErrors := saturate s.counters.checkErrors }
    let busyB := busyAfter { byte := b, framingError := false }
    (s.active = false → exec .opener s = .next s ∧ exec (.framingError b) s = .next s ∧ exec .rxGapTimeout s = .next s ∧
      exec .resyncQuiet s = .next s ∧ ∀ chars, exec (.frameReceived chars) s = .next s) ∧
    (s.active = true → sending s = none →
      (s.receiver.state = .hunt →
        exec .opener s = .next { s with receiver :=
          { s.receiver.hearing false with state := .frame, taken := [], openerPhase := s.base.phase } } ∧
        exec (.framingError b) s = .next (heard true) ∧
        (b ≠ 0xC3#8 → exec (.frameReceived [b]) s = .next (heard busyB))) ∧
      (s.receiver.state = .resync →
        exec .opener s = .next (heard false) ∧ exec (.framingError b) s = .next (heard true) ∧
        exec (.frameReceived [b]) s = .next (heard busyB)) ∧
      (s.receiver.state = .frame → exec .opener s = exec (.frameReceived [0xC3#8]) s ∧
        exec (.framingError b) s = .next { s with
          receiver := { s.receiver.hearing true with state := .resync, taken := [] }, counters := counted })) ∧
    (s.active = true →
      (s.receiver.state = .frame → exec .rxGapTimeout s = .next { s with
        receiver := { s.receiver with state := .hunt, taken := [], lineBusy := false }, counters := counted }) ∧
      (s.receiver.state ≠ .frame → exec .rxGapTimeout s = .next { s with
        receiver := { s.receiver with lineBusy := false } }) ∧
      (s.receiver.state = .resync → exec .resyncQuiet s = .next { s with
        receiver := { s.receiver with state := .hunt, lineBusy := false } }) ∧
      (s.receiver.state ≠ .resync → exec .resyncQuiet s = .next { s with
        receiver := { s.receiver with lineBusy := false } }))

/-- Sending and receiving agree (R134, R135, R137, R138, R148): for every source address, kind and body of the kind's length, the
frame built from them, once its opener has been taken, enters the FIFO with that source, kind and body, unmarked and with its opener
phase, or is dropped and counted where the FIFO is full; with the own source address it is an address clash: CONFIG-FAULT, with
every output off, the driver released, the generator stopped, a plan computation abandoned and everything else kept (R175). With
other check characters, a kind code of 15 or a length that is not the kind's, it is discarded and counted. The line-busy indication
is that of the last character taken (R133, log 14). The frame is the opener, the header, the length, the body and the check, the CRC
bit by bit from FFFFh with the polynomial 1021h, high character first (R134); the codes and body lengths are those of R148. A
frame's characters may come over several commands (log 10): two in succession are as one with all the characters; a part that does
not end the frame is kept, with the opener phase; and the part that ends it, whatever has happened since to the rest of the node,
does what the whole frame does with the opener phase it was given at its opener (R135), but that a single last character is no
second one to the quiet test (log 14). -/
def Obligations.BuiltFrameIsReceivedWhole : Prop :=
  (crcOf [] = 0xFFFF#16 ∧ ∀ (chars : List Byte) (b : Byte), crcOf (chars ++ [b]) = [7, 6, 5, 4, 3, 2, 1, 0].foldl
    (fun (x : BitVec 16) i => if x.getLsbD 15 = b.getLsbD i then x <<< 1 else (x <<< 1) ^^^ 0x1021#16) (crcOf chars)) ∧
  (∀ chars : List Byte, (checkChars chars).map BitVec.toNat = [(crcOf chars).toNat / 256, (crcOf chars).toNat % 256]) ∧
  (∀ (source : Nat) (k : NoticeKind) (body : List Byte),
    let checked := BitVec.ofNat 8 (source * 16 + kindCode k) :: BitVec.ofNat 8 body.length :: body
    buildFrame source k body = 0xC3#8 :: (checked ++ checkChars checked)) ∧
  (let kinds := [NoticeKind.presence, .claim, .release, .spark, .sparkFree, .program, .start, .hold, .resume, .stop, .haltAll, .state,
      .query, .counts, .restart]
   kinds.map kindCode = List.range 15 ∧
   (∀ a < 8, kinds.map (bodyLength · a) = [16, 3, 1, 1, 1, 8, 2, 2, 2, 2, 0, 8, 1, 8, 1]) ∧
   ∀ a, 8 ≤ a → kinds.map (bodyLength · a) = [0, 3, 1, 1, 1, 8, 2, 2, 2, 2, 0, 8, 1, 8, 1]) ∧
  (∀ (xs ys : List Byte) (s t : State), s.ready → exec (.frameReceived xs) s = .next t →
    exec (.frameReceived (xs ++ ys)) s = exec (.frameReceived ys) t) ∧
  (∀ (a : Station) (k : NoticeKind) (body now later : List Byte) (s : State), s.ready → s.active = true → sending s = none →
    s.receiver.state = .frame → body.length = bodyLength k a.val →
    s.receiver.taken ++ (now ++ later) = (buildFrame a.val k body).tail →
    (later ≠ [] → ∃ t, exec (.frameReceived now) s = .next t ∧ t = { s with receiver := t.receiver } ∧
      t.receiver.state = .frame ∧ t.receiver.taken = s.receiver.taken ++ now ∧
      t.receiver.openerPhase = s.receiver.openerPhase) ∧
    (later = [] → now ≠ [] → ∃ t u, exec (.frameReceived now) s = .next t ∧
      exec (.frameReceived (buildFrame a.val k body).tail) { s with receiver := { s.receiver with taken := [] } } = .next u ∧
      t = { u with receiver := { u.receiver with busySince := t.receiver.busySince } } ∧
      t.receiver.busySince =
        (s.receiver.busySince || s.receiver.heard || decide (2 ≤ now.length) || u.receiver.lineBusy))) ∧
  ∀ (a : Station) (k : NoticeKind) (body : List Byte) (s : State), s.ready → s.active = true → sending s = none →
    s.receiver.state = .frame → s.receiver.taken = [] → body.length = bodyLength k a.val →
    let checked := byteOf (a.val * 16 + kindCode k) :: byteOf body.length :: body
    let got : Byte → State := fun last => { s with receiver := { s.receiver with
      state := .hunt, taken := [], lineBusy := busyAfter { byte := last, framingError := false }, heard := true
      busySince := true } }
    let counted : Counters := { s.counters with checkErrors := saturate s.counters.checkErrors }
    let broken : LineReceiver → Byte → State := fun r last => { s with
      receiver := { r.hearing (busyAfter { byte := last, framingError := false }) with state := .resync, taken := [] }
      counters := counted }
    let f : RxFrame := { source := a, kind := k, body := body, own := false, openerPhase := s.receiver.openerPhase }
    let run := exec (.frameReceived (buildFrame a.val k body).tail) s
    let whole := got ((checkChars checked).getD 1 0)
    (s.isOwn a = false → s.dispatcher.fifo.length < 4 →
      run = .next { whole with dispatcher := { s.dispatcher with fifo := s.dispatcher.fifo ++ [f] } }) ∧
    (s.isOwn a = false → 4 ≤ s.dispatcher.fifo.length →
      run = .next { whole with counters := { s.counters with fifoOverflows := saturate s.counters.fifoOverflows } }) ∧
    (s.isOwn a = true → ∃ t, run = .next t ∧
      t = { whole with
        base := { s.base with freeRun := .stopped }, elements := t.elements, gas := t.gas
        plan := { s.plan with planning := none, computed := s.plan.computed && s.plan.planning.isNone }
        tx := { s.tx with selection := none, sent := none }
        loader := { s.loader with node := .configFault, reading := false } } ∧
      (∀ c : Channel, t.elements[c] = { s.elements[c] with relay := false } ∧
        t.gas[c] = { s.gas[c] with valve := false, spark := false } ∧ t.outputA c = false) ∧ t.sparkEnable = false) ∧
    (∀ x y : Byte, [x, y] ≠ checkChars checked →
      exec (.frameReceived (checked ++ [x, y])) s = .next { got y with counters := counted }) ∧
    (∀ h : Byte, h.toNat % 16 = 15 → exec (.frameReceived [h]) s = .next (broken s.receiver h)) ∧
    (∀ l : Byte, l.toNat ≠ body.length →
      exec (.frameReceived [byteOf (a.val * 16 + kindCode k), l]) s = .next (broken (s.receiver.hearing true) l))

/-- A node's own frame (R136, R137, R138, R145, R163, R166): the opener compared equal goes on; when the rest has been compared
equal the transmission has succeeded: the flag is cleared where its mark is the one recorded, the rotation pointer of its kind is
the channel sent and no other pointer moves, a STATE clears the refused flag its snapshot carried where no refusal came since, a
COUNTS takes its snapshot from the counters, and the frame enters the FIFO marked own; where the FIFO is full it is dropped and
counted all the same, after the reduction of a COUNTS (log 30, DESIGN CHOICE). The line-busy indication is that of the last
character (R133, log 14). -/
def Obligations.OwnFrameSucceeds : Prop :=
  ∀ (x : Selection) (k : NoticeKind) (body : List Byte) (s : State), s.ready → s.active = true →
    let own := s.loader.options.address.val
    s.tx.selection = some x → x.frame = buildFrame own k body → body.length = bodyLength k own →
    let last := (checkChars (byteOf (own * 16 + kindCode k) :: byteOf body.length :: body)).getD 1 0
    let reduced : Counters := if x.request = .counts then
        { checkErrors := s.counters.checkErrors - x.counters.checkErrors
          collisions := s.counters.collisions - x.counters.collisions
          fifoOverflows := s.counters.fifoOverflows - x.counters.fifoOverflows
          phaseAdjusts := s.counters.phaseAdjusts - x.counters.phaseAdjusts
          sheds := s.counters.sheds - x.counters.sheds
          ignitionFails := s.counters.ignitionFails - x.counters.ignitionFails
          flameLosses := s.counters.flameLosses - x.counters.flameLosses
          sparkConflicts := s.counters.sparkConflicts - x.counters.sparkConflicts }
      else s.counters
    let full := 4 ≤ s.dispatcher.fifo.length
    (s.tx.sent = some 0 → s.receiver.state = .hunt → exec .opener s = .next { s with
      tx := { s.tx with sent := some 1 }
      receiver := { s.receiver.hearing false with state := .frame, taken := [], openerPhase := s.base.phase } }) ∧
    (s.tx.sent = some 1 → s.receiver.state = .frame → s.receiver.taken = [] →
      ∃ t, exec (.frameReceived x.frame.tail) s = .next t ∧
        t = { s with
          programs := t.programs, tx := t.tx
          counters := if full then { reduced with fifoOverflows := saturate reduced.fifoOverflows } else reduced
          receiver := { s.receiver with
            state := .hunt, taken := [], lineBusy := busyAfter { byte := last, framingError := false }, heard := true
            busySince := true }
          dispatcher := if full then s.dispatcher else { s.dispatcher with fifo := s.dispatcher.fifo ++
            [{ source := ⟨own, by omega⟩, kind := k, body := body, own := true, openerPhase := s.receiver.openerPhase }] } } ∧
        t.tx.selection = none ∧ t.tx.sent = none ∧ t.tx.attempted = s.tx.attempted ∧
        (∀ r, r ≠ x.request → flagOf t.tx r = flagOf s.tx r) ∧
        flagOf t.tx x.request =
          { isSet := (s.asked x.request && (flagOf s.tx x.request).mark != x.mark), mark := (flagOf s.tx x.request).mark } ∧
        (∀ kind c, x.request = .ofChannel kind c → (channelFlags t.tx kind).pointer = c) ∧
        (∀ kind, (∀ c, x.request ≠ .ofChannel kind c) → (channelFlags t.tx kind).pointer = (channelFlags s.tx kind).pointer) ∧
        ∀ c : Channel, t.programs[c] =
          if x.request = .ofChannel .state c ∧ x.refusedShown = true ∧ s.programs[c].refusalMark = x.refusalMark then
            { s.programs[c] with refused := false }
          else s.programs[c])

/-- The end of the defer and an abort (R142 to R144). The defer is 4 bit times and 2 for each place of the node's rank, by the phase
that the half-cycle's event set. There a selected notice's frame starts if the line has been quiet since the event, the receiver is
in HUNT, the node is in RUN and the half-cycle has had no frame and no abort of the node; else the selection lapses and every flag
stays. A character sampled that differs from the one sent aborts: the driver released, the collision counted, the flags and marks
kept, no further frame in the half-cycle; a framing error in a check character takes the receiver to RESYNC as anywhere in FRAME
(log 29, DESIGN CHOICE). A FRAME_START at another moment, and a TRANSMIT_ABORT where the node sends nothing or the character equals
the one sent, change nothing, and a FRAME_START without a selection nothing further (log 3). That the line has been quiet is the
command's operand and what the node's own line-busy indication has shown at and since the event (log 14); a line that has been quiet
has its indication quiet (R133). In START-UP and CONFIG-FAULT both change nothing (R175). -/
def Obligations.FrameStartsOnAQuietLineAndAborts : Prop :=
  (∀ (p : DeferEnd) (ch : LineChar) (s : State), s.ready → s.active = false →
    exec (.frameStart p) s = .next s ∧ exec (.transmitAbort ch) s = .next s) ∧
  ∀ (bits : Nat) (quiet : Bool) (ch : LineChar) (s : State), s.ready → s.active = true →
    let deferBits := 4 + 2 * ((s.loader.options.address.val + 16 - s.base.eventPhase % 16) % 16)
    let quietened : LineReceiver := { s.receiver with lineBusy := s.receiver.lineBusy && !quiet }
    let may := quiet = true ∧ s.receiver.busySince = false ∧ s.receiver.state = .hunt ∧ s.inRun = true ∧ s.tx.attempted = false
    (bits ≠ deferBits → exec (.frameStart { bits := bits, quiet := quiet }) s = .next s) ∧
    (bits = deferBits → s.tx.selection = none ∨ s.tx.sent.isSome = true →
      exec (.frameStart { bits := bits, quiet := quiet }) s = .next { s with receiver := quietened }) ∧
    (bits = deferBits → s.tx.selection.isSome = true → s.tx.sent = none →
      (may → exec (.frameStart { bits := bits, quiet := quiet }) s = .next { s with
        tx := { s.tx with sent := some 0, attempted := true }
        receiver := { s.receiver with lineBusy := true, busySince := true } }) ∧
      (¬ may → exec (.frameStart { bits := bits, quiet := quiet }) s = .next { s with
        tx := { s.tx with selection := none }, receiver := quietened })) ∧
    (sending s = none → exec (.transmitAbort ch) s = .next s) ∧
    (∀ x n b, s.tx.selection = some x → s.tx.sent = some n → x.frame[n]? = some b →
      (ch.framingError = false → ch.byte = b → exec (.transmitAbort ch) s = .next s) ∧
      (ch.framingError = true ∨ ch.byte ≠ b → ∃ t, exec (.transmitAbort ch) s = .next t ∧
        t.tx = { s.tx with selection := none, sent := none, attempted := true } ∧ t.lineDriven = false ∧
        t.counters.collisions = saturate s.counters.collisions ∧ t.programs = s.programs ∧ t.peers = s.peers ∧
        t.arbiter = s.arbiter ∧ t.handovers = s.handovers ∧ t.plan.table = s.plan.table ∧
        t.receiver.lineBusy = busyAfter ch ∧ t.receiver.heard = true ∧
        t.receiver.busySince = (s.receiver.busySince || s.receiver.heard || busyAfter ch) ∧
        (s.receiver.state ≠ .frame → t = { s with
          tx := t.tx, receiver := t.receiver
          counters := { s.counters with collisions := saturate s.counters.collisions } }) ∧
        (s.receiver.state = .frame → ch.framingError = true →
          t.receiver.state = .resync ∧ t.counters.checkErrors = saturate s.counters.checkErrors)))

/-- The selection at a half-cycle event (R141), in RUN with no own frame on the line: nothing where no flag is set; else the request
of the first kind in the order with a flag set, and of a per-channel kind the channel that comes first after the rotation pointer;
its mark, its frame and the refused flag, refusal mark and counters of its snapshot are recorded. The frame's body is that of
section 9.6 (R151 to R153, R157, R160), with the remaining time of R43 and the claims and keys wanted (R91, R98, R129), and its kind
that of the request. A GAS channel's class bits are sent as 0 (log 31, DESIGN CHOICE), and so is a claim content that is missing
(log 20, in no run). -/
def Obligations.SelectionFollowsKindAndRotation : Prop :=
  (∀ s : State,
    (s.inRun = false ∨ s.tx.sent.isSome = true → takeOne .select s = s) ∧
    (s.inRun = true → s.tx.sent = none → ∃ t, takeOne .select s = t ∧
      t = { s with tx := { s.tx with selection := t.tx.selection } } ∧
      ((∀ r, s.asked r = false) → t.tx.selection = none) ∧
      (∀ r, s.asked r = true →
        (∀ q, s.asked q = true → requestRank r < requestRank q ∨ q = r ∨
          ∃ k c d, r = .ofChannel k c ∧ q = .ofChannel k d ∧
            rotationDistance (channelFlags s.tx k).pointer c < rotationDistance (channelFlags s.tx k).pointer d) →
        ∃ x, t.tx.selection = some x ∧ x.request = r ∧ x.mark = (flagOf s.tx r).mark ∧ x.counters = s.counters ∧
          x.frame = buildFrame s.loader.options.address.val (requestKind r) (requestBody s r) ∧
          (∀ c, r = .ofChannel .state c →
            x.refusedShown = s.programs[c].refused ∧ x.refusalMark = s.programs[c].refusalMark)))) ∧
  (∀ s : State,
    let b : Nat → Byte := BitVec.ofNat 8
    let o := s.loader.options
    let content : Channel → ClaimContent := fun c => (s.elements[c].claim).getD { current := 0, slots := 0, cls := 0 }
    let claims : Channel → Bool := fun c => asksClaim s.elements[c].heat && (s.elements[c].claim).isSome
    let mains := match s.base.lock with
      | .seek => 0
      | .lock50 => 1
      | .lock60 => 2
      | .lost => 3
    let summary : Channel → List Byte := fun c => match s.kind c with
      | .unused => [b 0, b 0, b 0]
      | .gas => [b (2 + if wantsSpark s.gas[c].heat then 64 else 0), b 0, b 0]
      | .element => if claims c then [b (5 + 16 * (content c).cls), b (content c).current, b (content c).slots] else [b 1, b 0, b 0]
    let n := s.counters
    requestBody s .haltAll = [] ∧
    requestBody s .counts = [b n.checkErrors, b n.collisions, b n.fifoOverflows, b n.phaseAdjusts, b n.sheds, b n.ignitionFails,
      b n.flameLosses, b n.sparkConflicts] ∧
    requestBody s .presence = [b s.base.phase, b (16 * o.interval + o.bCode),
      b ((if s.peers.bMismatch then 32 else 0) + (if s.peers.budgetDiffers then 16 else 0) + mains), b o.budget] ++
      summary 0 ++ summary 1 ++ summary 2 ++ summary 3 ∧
    ∀ c : Channel,
      let p := s.programs[c]
      let left := remainingTime p
      requestBody s (.ofChannel .claim c) = [b (16 * c.val + (content c).cls), b (content c).current, b (content c).slots] ∧
      requestBody s (.ofChannel .release c) = [b c.val] ∧ requestBody s (.ofChannel .spark c) = [b c.val] ∧
      requestBody s (.ofChannel .sparkFree c) = [b c.val] ∧
      (s.used c = false → requestBody s (.ofChannel .state c) =
        [b c.val, b 0, b 0, b 15, b 0, b 0, b (if p.refused then 2 else 0), b 0]) ∧
      (s.used c = true → requestBody s (.ofChannel .state c) =
        [b c.val, b (programStateCode p.state), b (16 * p.index + p.repeatsDone), b (heatCode s c), b (left / 256), b left,
          b ((if p.alert then 1 else 0) + (if p.refused then 2 else 0) + (if s.kind c = .gas ∧ s.gas[c].stray then 4 else 0)),
          b (faultCodeOf p.fault)]) ∧
      (p.state = .empty ∨ p.state = .ready ∨ p.state = .ended → left = 0) ∧
      (∀ st, currentStage p = some st → p.state = .running ∨ p.state = .held →
        left = if st.duration = 0 then 65535 else st.duration - p.elapsed) ∧
      (s.kind c = .element → heatCode s c = elementHeatCode s.elements[c].heat) ∧
      (s.kind c = .gas → heatCode s c = gasHeatCode s.gas[c].heat)) ∧
  (requestKind .haltAll = .haltAll ∧ requestKind .presence = .presence ∧ requestKind .counts = .counts ∧ ∀ c : Channel,
    requestKind (.ofChannel .claim c) = .claim ∧ requestKind (.ofChannel .release c) = .release ∧
    requestKind (.ofChannel .spark c) = .spark ∧ requestKind (.ofChannel .sparkFree c) = .sparkFree ∧
    requestKind (.ofChannel .state c) = .state) ∧
  [ElementHeat.off, .satisfied, .claiming, .admitted, .shed].map asksClaim = [false, false, true, true, true] ∧
  [GasHeat.off, .waitSpark, .ignite, .proven, .relightWait, .relightSpark, .purge, .lockout].map wantsSpark =
    [false, true, true, false, true, true, false, false] ∧
  [ProgramState.empty, .ready, .running, .held, .ended].map programStateCode = [0, 1, 2, 3, 4] ∧
  [ElementHeat.off, .satisfied, .claiming, .admitted, .shed].map elementHeatCode = [0, 1, 2, 3, 4] ∧
  [GasHeat.off, .waitSpark, .ignite, .proven, .relightWait, .relightSpark, .purge, .lockout].map gasHeatCode =
    [0, 8, 9, 10, 11, 12, 13, 14] ∧
  [FaultCode.none, .ignitionLockout, .flameLossLockout].map faultCodeOf = [0, 1, 2]
end

