-- ==== Sys2Proof/Laws/State.lean ====
section
/-!
SUPPORT. Laws/State.lean: reading a block after an update of a block; every lemma is true by definition.
-/

namespace Sys2Proof.Machine.State

@[simp] theorem base_setBase (s : State) (x : TimeBase) : (s.setBase x).base = x := rfl
@[simp] theorem programs_setBase (s : State) (x : TimeBase) : (s.setBase x).programs = s.programs := rfl
@[simp] theorem handovers_setBase (s : State) (x : TimeBase) : (s.setBase x).handovers = s.handovers := rfl
@[simp] theorem elements_setBase (s : State) (x : TimeBase) : (s.setBase x).elements = s.elements := rfl
@[simp] theorem gas_setBase (s : State) (x : TimeBase) : (s.setBase x).gas = s.gas := rfl
@[simp] theorem plan_setBase (s : State) (x : TimeBase) : (s.setBase x).plan = s.plan := rfl
@[simp] theorem arbiter_setBase (s : State) (x : TimeBase) : (s.setBase x).arbiter = s.arbiter := rfl
@[simp] theorem peers_setBase (s : State) (x : TimeBase) : (s.setBase x).peers = s.peers := rfl
@[simp] theorem receiver_setBase (s : State) (x : TimeBase) : (s.setBase x).receiver = s.receiver := rfl
@[simp] theorem dispatcher_setBase (s : State) (x : TimeBase) : (s.setBase x).dispatcher = s.dispatcher := rfl
@[simp] theorem tx_setBase (s : State) (x : TimeBase) : (s.setBase x).tx = s.tx := rfl
@[simp] theorem counters_setBase (s : State) (x : TimeBase) : (s.setBase x).counters = s.counters := rfl
@[simp] theorem loader_setBase (s : State) (x : TimeBase) : (s.setBase x).loader = s.loader := rfl
@[simp] theorem pins_setBase (s : State) (x : TimeBase) : (s.setBase x).pins = s.pins := rfl
@[simp] theorem event_setBase (s : State) (x : TimeBase) : (s.setBase x).event = s.event := rfl
@[simp] theorem pending_setBase (s : State) (x : TimeBase) : (s.setBase x).pending = s.pending := rfl

@[simp] theorem base_setProgram (s : State) (c : Channel) (x : Program) : (s.setProgram c x).base = s.base := rfl
@[simp] theorem programs_setProgram (s : State) (c : Channel) (x : Program) : (s.setProgram c x).programs = s.programs.set c x := rfl
@[simp] theorem handovers_setProgram (s : State) (c : Channel) (x : Program) : (s.setProgram c x).handovers = s.handovers := rfl
@[simp] theorem elements_setProgram (s : State) (c : Channel) (x : Program) : (s.setProgram c x).elements = s.elements := rfl
@[simp] theorem gas_setProgram (s : State) (c : Channel) (x : Program) : (s.setProgram c x).gas = s.gas := rfl
@[simp] theorem plan_setProgram (s : State) (c : Channel) (x : Program) : (s.setProgram c x).plan = s.plan := rfl
@[simp] theorem arbiter_setProgram (s : State) (c : Channel) (x : Program) : (s.setProgram c x).arbiter = s.arbiter := rfl
@[simp] theorem peers_setProgram (s : State) (c : Channel) (x : Program) : (s.setProgram c x).peers = s.peers := rfl
@[simp] theorem receiver_setProgram (s : State) (c : Channel) (x : Program) : (s.setProgram c x).receiver = s.receiver := rfl
@[simp] theorem dispatcher_setProgram (s : State) (c : Channel) (x : Program) : (s.setProgram c x).dispatcher = s.dispatcher := rfl
@[simp] theorem tx_setProgram (s : State) (c : Channel) (x : Program) : (s.setProgram c x).tx = s.tx := rfl
@[simp] theorem counters_setProgram (s : State) (c : Channel) (x : Program) : (s.setProgram c x).counters = s.counters := rfl
@[simp] theorem loader_setProgram (s : State) (c : Channel) (x : Program) : (s.setProgram c x).loader = s.loader := rfl
@[simp] theorem pins_setProgram (s : State) (c : Channel) (x : Program) : (s.setProgram c x).pins = s.pins := rfl
@[simp] theorem event_setProgram (s : State) (c : Channel) (x : Program) : (s.setProgram c x).event = s.event := rfl
@[simp] theorem pending_setProgram (s : State) (c : Channel) (x : Program) : (s.setProgram c x).pending = s.pending := rfl
@[simp] theorem programs_setProgram_self (s : State) (c : Channel) (x : Program) : (s.setProgram c x).programs[c] = x := by simp [State.setProgram]
theorem programs_setProgram_of_ne (s : State) (c : Channel) (x : Program) (d : Channel) (h : d ≠ c) : (s.setProgram c x).programs[d] = s.programs[d] := by
  have h' : c.val ≠ d.val := fun e => h (Fin.ext e.symm)
  simp [State.setProgram, h']

@[simp] theorem base_setHandovers (s : State) (c : Channel) (x : List Nat) : (s.setHandovers c x).base = s.base := rfl
@[simp] theorem programs_setHandovers (s : State) (c : Channel) (x : List Nat) : (s.setHandovers c x).programs = s.programs := rfl
@[simp] theorem handovers_setHandovers (s : State) (c : Channel) (x : List Nat) : (s.setHandovers c x).handovers = s.handovers.set c x := rfl
@[simp] theorem elements_setHandovers (s : State) (c : Channel) (x : List Nat) : (s.setHandovers c x).elements = s.elements := rfl
@[simp] theorem gas_setHandovers (s : State) (c : Channel) (x : List Nat) : (s.setHandovers c x).gas = s.gas := rfl
@[simp] theorem plan_setHandovers (s : State) (c : Channel) (x : List Nat) : (s.setHandovers c x).plan = s.plan := rfl
@[simp] theorem arbiter_setHandovers (s : State) (c : Channel) (x : List Nat) : (s.setHandovers c x).arbiter = s.arbiter := rfl
@[simp] theorem peers_setHandovers (s : State) (c : Channel) (x : List Nat) : (s.setHandovers c x).peers = s.peers := rfl
@[simp] theorem receiver_setHandovers (s : State) (c : Channel) (x : List Nat) : (s.setHandovers c x).receiver = s.receiver := rfl
@[simp] theorem dispatcher_setHandovers (s : State) (c : Channel) (x : List Nat) : (s.setHandovers c x).dispatcher = s.dispatcher := rfl
@[simp] theorem tx_setHandovers (s : State) (c : Channel) (x : List Nat) : (s.setHandovers c x).tx = s.tx := rfl
@[simp] theorem counters_setHandovers (s : State) (c : Channel) (x : List Nat) : (s.setHandovers c x).counters = s.counters := rfl
@[simp] theorem loader_setHandovers (s : State) (c : Channel) (x : List Nat) : (s.setHandovers c x).loader = s.loader := rfl
@[simp] theorem pins_setHandovers (s : State) (c : Channel) (x : List Nat) : (s.setHandovers c x).pins = s.pins := rfl
@[simp] theorem event_setHandovers (s : State) (c : Channel) (x : List Nat) : (s.setHandovers c x).event = s.event := rfl
@[simp] theorem pending_setHandovers (s : State) (c : Channel) (x : List Nat) : (s.setHandovers c x).pending = s.pending := rfl
@[simp] theorem handovers_setHandovers_self (s : State) (c : Channel) (x : List Nat) : (s.setHandovers c x).handovers[c] = x := by simp [State.setHandovers]
theorem handovers_setHandovers_of_ne (s : State) (c : Channel) (x : List Nat) (d : Channel) (h : d ≠ c) : (s.setHandovers c x).handovers[d] = s.handovers[d] := by
  have h' : c.val ≠ d.val := fun e => h (Fin.ext e.symm)
  simp [State.setHandovers, h']

@[simp] theorem base_setElement (s : State) (c : Channel) (x : ElementDriver) : (s.setElement c x).base = s.base := rfl
@[simp] theorem programs_setElement (s : State) (c : Channel) (x : ElementDriver) : (s.setElement c x).programs = s.programs := rfl
@[simp] theorem handovers_setElement (s : State) (c : Channel) (x : ElementDriver) : (s.setElement c x).handovers = s.handovers := rfl
@[simp] theorem elements_setElement (s : State) (c : Channel) (x : ElementDriver) : (s.setElement c x).elements = s.elements.set c x := rfl
@[simp] theorem gas_setElement (s : State) (c : Channel) (x : ElementDriver) : (s.setElement c x).gas = s.gas := rfl
@[simp] theorem plan_setElement (s : State) (c : Channel) (x : ElementDriver) : (s.setElement c x).plan = s.plan := rfl
@[simp] theorem arbiter_setElement (s : State) (c : Channel) (x : ElementDriver) : (s.setElement c x).arbiter = s.arbiter := rfl
@[simp] theorem peers_setElement (s : State) (c : Channel) (x : ElementDriver) : (s.setElement c x).peers = s.peers := rfl
@[simp] theorem receiver_setElement (s : State) (c : Channel) (x : ElementDriver) : (s.setElement c x).receiver = s.receiver := rfl
@[simp] theorem dispatcher_setElement (s : State) (c : Channel) (x : ElementDriver) : (s.setElement c x).dispatcher = s.dispatcher := rfl
@[simp] theorem tx_setElement (s : State) (c : Channel) (x : ElementDriver) : (s.setElement c x).tx = s.tx := rfl
@[simp] theorem counters_setElement (s : State) (c : Channel) (x : ElementDriver) : (s.setElement c x).counters = s.counters := rfl
@[simp] theorem loader_setElement (s : State) (c : Channel) (x : ElementDriver) : (s.setElement c x).loader = s.loader := rfl
@[simp] theorem pins_setElement (s : State) (c : Channel) (x : ElementDriver) : (s.setElement c x).pins = s.pins := rfl
@[simp] theorem event_setElement (s : State) (c : Channel) (x : ElementDriver) : (s.setElement c x).event = s.event := rfl
@[simp] theorem pending_setElement (s : State) (c : Channel) (x : ElementDriver) : (s.setElement c x).pending = s.pending := rfl
@[simp] theorem elements_setElement_self (s : State) (c : Channel) (x : ElementDriver) : (s.setElement c x).elements[c] = x := by simp [State.setElement]
theorem elements_setElement_of_ne (s : State) (c : Channel) (x : ElementDriver) (d : Channel) (h : d ≠ c) : (s.setElement c x).elements[d] = s.elements[d] := by
  have h' : c.val ≠ d.val := fun e => h (Fin.ext e.symm)
  simp [State.setElement, h']

@[simp] theorem base_setGas (s : State) (c : Channel) (x : GasSequencer) : (s.setGas c x).base = s.base := rfl
@[simp] theorem programs_setGas (s : State) (c : Channel) (x : GasSequencer) : (s.setGas c x).programs = s.programs := rfl
@[simp] theorem handovers_setGas (s : State) (c : Channel) (x : GasSequencer) : (s.setGas c x).handovers = s.handovers := rfl
@[simp] theorem elements_setGas (s : State) (c : Channel) (x : GasSequencer) : (s.setGas c x).elements = s.elements := rfl
@[simp] theorem gas_setGas (s : State) (c : Channel) (x : GasSequencer) : (s.setGas c x).gas = s.gas.set c x := rfl
@[simp] theorem plan_setGas (s : State) (c : Channel) (x : GasSequencer) : (s.setGas c x).plan = s.plan := rfl
@[simp] theorem arbiter_setGas (s : State) (c : Channel) (x : GasSequencer) : (s.setGas c x).arbiter = s.arbiter := rfl
@[simp] theorem peers_setGas (s : State) (c : Channel) (x : GasSequencer) : (s.setGas c x).peers = s.peers := rfl
@[simp] theorem receiver_setGas (s : State) (c : Channel) (x : GasSequencer) : (s.setGas c x).receiver = s.receiver := rfl
@[simp] theorem dispatcher_setGas (s : State) (c : Channel) (x : GasSequencer) : (s.setGas c x).dispatcher = s.dispatcher := rfl
@[simp] theorem tx_setGas (s : State) (c : Channel) (x : GasSequencer) : (s.setGas c x).tx = s.tx := rfl
@[simp] theorem counters_setGas (s : State) (c : Channel) (x : GasSequencer) : (s.setGas c x).counters = s.counters := rfl
@[simp] theorem loader_setGas (s : State) (c : Channel) (x : GasSequencer) : (s.setGas c x).loader = s.loader := rfl
@[simp] theorem pins_setGas (s : State) (c : Channel) (x : GasSequencer) : (s.setGas c x).pins = s.pins := rfl
@[simp] theorem event_setGas (s : State) (c : Channel) (x : GasSequencer) : (s.setGas c x).event = s.event := rfl
@[simp] theorem pending_setGas (s : State) (c : Channel) (x : GasSequencer) : (s.setGas c x).pending = s.pending := rfl
@[simp] theorem gas_setGas_self (s : State) (c : Channel) (x : GasSequencer) : (s.setGas c x).gas[c] = x := by simp [State.setGas]
theorem gas_setGas_of_ne (s : State) (c : Channel) (x : GasSequencer) (d : Channel) (h : d ≠ c) : (s.setGas c x).gas[d] = s.gas[d] := by
  have h' : c.val ≠ d.val := fun e => h (Fin.ext e.symm)
  simp [State.setGas, h']

@[simp] theorem base_setPlan (s : State) (x : LoadPlan) : (s.setPlan x).base = s.base := rfl
@[simp] theorem programs_setPlan (s : State) (x : LoadPlan) : (s.setPlan x).programs = s.programs := rfl
@[simp] theorem handovers_setPlan (s : State) (x : LoadPlan) : (s.setPlan x).handovers = s.handovers := rfl
@[simp] theorem elements_setPlan (s : State) (x : LoadPlan) : (s.setPlan x).elements = s.elements := rfl
@[simp] theorem gas_setPlan (s : State) (x : LoadPlan) : (s.setPlan x).gas = s.gas := rfl
@[simp] theorem plan_setPlan (s : State) (x : LoadPlan) : (s.setPlan x).plan = x := rfl
@[simp] theorem arbiter_setPlan (s : State) (x : LoadPlan) : (s.setPlan x).arbiter = s.arbiter := rfl
@[simp] theorem peers_setPlan (s : State) (x : LoadPlan) : (s.setPlan x).peers = s.peers := rfl
@[simp] theorem receiver_setPlan (s : State) (x : LoadPlan) : (s.setPlan x).receiver = s.receiver := rfl
@[simp] theorem dispatcher_setPlan (s : State) (x : LoadPlan) : (s.setPlan x).dispatcher = s.dispatcher := rfl
@[simp] theorem tx_setPlan (s : State) (x : LoadPlan) : (s.setPlan x).tx = s.tx := rfl
@[simp] theorem counters_setPlan (s : State) (x : LoadPlan) : (s.setPlan x).counters = s.counters := rfl
@[simp] theorem loader_setPlan (s : State) (x : LoadPlan) : (s.setPlan x).loader = s.loader := rfl
@[simp] theorem pins_setPlan (s : State) (x : LoadPlan) : (s.setPlan x).pins = s.pins := rfl
@[simp] theorem event_setPlan (s : State) (x : LoadPlan) : (s.setPlan x).event = s.event := rfl
@[simp] theorem pending_setPlan (s : State) (x : LoadPlan) : (s.setPlan x).pending = s.pending := rfl

@[simp] theorem base_setArbiter (s : State) (x : SparkArbiter) : (s.setArbiter x).base = s.base := rfl
@[simp] theorem programs_setArbiter (s : State) (x : SparkArbiter) : (s.setArbiter x).programs = s.programs := rfl
@[simp] theorem handovers_setArbiter (s : State) (x : SparkArbiter) : (s.setArbiter x).handovers = s.handovers := rfl
@[simp] theorem elements_setArbiter (s : State) (x : SparkArbiter) : (s.setArbiter x).elements = s.elements := rfl
@[simp] theorem gas_setArbiter (s : State) (x : SparkArbiter) : (s.setArbiter x).gas = s.gas := rfl
@[simp] theorem plan_setArbiter (s : State) (x : SparkArbiter) : (s.setArbiter x).plan = s.plan := rfl
@[simp] theorem arbiter_setArbiter (s : State) (x : SparkArbiter) : (s.setArbiter x).arbiter = x := rfl
@[simp] theorem peers_setArbiter (s : State) (x : SparkArbiter) : (s.setArbiter x).peers = s.peers := rfl
@[simp] theorem receiver_setArbiter (s : State) (x : SparkArbiter) : (s.setArbiter x).receiver = s.receiver := rfl
@[simp] theorem dispatcher_setArbiter (s : State) (x : SparkArbiter) : (s.setArbiter x).dispatcher = s.dispatcher := rfl
@[simp] theorem tx_setArbiter (s : State) (x : SparkArbiter) : (s.setArbiter x).tx = s.tx := rfl
@[simp] theorem counters_setArbiter (s : State) (x : SparkArbiter) : (s.setArbiter x).counters = s.counters := rfl
@[simp] theorem loader_setArbiter (s : State) (x : SparkArbiter) : (s.setArbiter x).loader = s.loader := rfl
@[simp] theorem pins_setArbiter (s : State) (x : SparkArbiter) : (s.setArbiter x).pins = s.pins := rfl
@[simp] theorem event_setArbiter (s : State) (x : SparkArbiter) : (s.setArbiter x).event = s.event := rfl
@[simp] theorem pending_setArbiter (s : State) (x : SparkArbiter) : (s.setArbiter x).pending = s.pending := rfl

@[simp] theorem base_setPeers (s : State) (x : PeerTable) : (s.setPeers x).base = s.base := rfl
@[simp] theorem programs_setPeers (s : State) (x : PeerTable) : (s.setPeers x).programs = s.programs := rfl
@[simp] theorem handovers_setPeers (s : State) (x : PeerTable) : (s.setPeers x).handovers = s.handovers := rfl
@[simp] theorem elements_setPeers (s : State) (x : PeerTable) : (s.setPeers x).elements = s.elements := rfl
@[simp] theorem gas_setPeers (s : State) (x : PeerTable) : (s.setPeers x).gas = s.gas := rfl
@[simp] theorem plan_setPeers (s : State) (x : PeerTable) : (s.setPeers x).plan = s.plan := rfl
@[simp] theorem arbiter_setPeers (s : State) (x : PeerTable) : (s.setPeers x).arbiter = s.arbiter := rfl
@[simp] theorem peers_setPeers (s : State) (x : PeerTable) : (s.setPeers x).peers = x := rfl
@[simp] theorem receiver_setPeers (s : State) (x : PeerTable) : (s.setPeers x).receiver = s.receiver := rfl
@[simp] theorem dispatcher_setPeers (s : State) (x : PeerTable) : (s.setPeers x).dispatcher = s.dispatcher := rfl
@[simp] theorem tx_setPeers (s : State) (x : PeerTable) : (s.setPeers x).tx = s.tx := rfl
@[simp] theorem counters_setPeers (s : State) (x : PeerTable) : (s.setPeers x).counters = s.counters := rfl
@[simp] theorem loader_setPeers (s : State) (x : PeerTable) : (s.setPeers x).loader = s.loader := rfl
@[simp] theorem pins_setPeers (s : State) (x : PeerTable) : (s.setPeers x).pins = s.pins := rfl
@[simp] theorem event_setPeers (s : State) (x : PeerTable) : (s.setPeers x).event = s.event := rfl
@[simp] theorem pending_setPeers (s : State) (x : PeerTable) : (s.setPeers x).pending = s.pending := rfl

@[simp] theorem base_setReceiver (s : State) (x : LineReceiver) : (s.setReceiver x).base = s.base := rfl
@[simp] theorem programs_setReceiver (s : State) (x : LineReceiver) : (s.setReceiver x).programs = s.programs := rfl
@[simp] theorem handovers_setReceiver (s : State) (x : LineReceiver) : (s.setReceiver x).handovers = s.handovers := rfl
@[simp] theorem elements_setReceiver (s : State) (x : LineReceiver) : (s.setReceiver x).elements = s.elements := rfl
@[simp] theorem gas_setReceiver (s : State) (x : LineReceiver) : (s.setReceiver x).gas = s.gas := rfl
@[simp] theorem plan_setReceiver (s : State) (x : LineReceiver) : (s.setReceiver x).plan = s.plan := rfl
@[simp] theorem arbiter_setReceiver (s : State) (x : LineReceiver) : (s.setReceiver x).arbiter = s.arbiter := rfl
@[simp] theorem peers_setReceiver (s : State) (x : LineReceiver) : (s.setReceiver x).peers = s.peers := rfl
@[simp] theorem receiver_setReceiver (s : State) (x : LineReceiver) : (s.setReceiver x).receiver = x := rfl
@[simp] theorem dispatcher_setReceiver (s : State) (x : LineReceiver) : (s.setReceiver x).dispatcher = s.dispatcher := rfl
@[simp] theorem tx_setReceiver (s : State) (x : LineReceiver) : (s.setReceiver x).tx = s.tx := rfl
@[simp] theorem counters_setReceiver (s : State) (x : LineReceiver) : (s.setReceiver x).counters = s.counters := rfl
@[simp] theorem loader_setReceiver (s : State) (x : LineReceiver) : (s.setReceiver x).loader = s.loader := rfl
@[simp] theorem pins_setReceiver (s : State) (x : LineReceiver) : (s.setReceiver x).pins = s.pins := rfl
@[simp] theorem event_setReceiver (s : State) (x : LineReceiver) : (s.setReceiver x).event = s.event := rfl
@[simp] theorem pending_setReceiver (s : State) (x : LineReceiver) : (s.setReceiver x).pending = s.pending := rfl

@[simp] theorem base_setDispatcher (s : State) (x : Dispatcher) : (s.setDispatcher x).base = s.base := rfl
@[simp] theorem programs_setDispatcher (s : State) (x : Dispatcher) : (s.setDispatcher x).programs = s.programs := rfl
@[simp] theorem handovers_setDispatcher (s : State) (x : Dispatcher) : (s.setDispatcher x).handovers = s.handovers := rfl
@[simp] theorem elements_setDispatcher (s : State) (x : Dispatcher) : (s.setDispatcher x).elements = s.elements := rfl
@[simp] theorem gas_setDispatcher (s : State) (x : Dispatcher) : (s.setDispatcher x).gas = s.gas := rfl
@[simp] theorem plan_setDispatcher (s : State) (x : Dispatcher) : (s.setDispatcher x).plan = s.plan := rfl
@[simp] theorem arbiter_setDispatcher (s : State) (x : Dispatcher) : (s.setDispatcher x).arbiter = s.arbiter := rfl
@[simp] theorem peers_setDispatcher (s : State) (x : Dispatcher) : (s.setDispatcher x).peers = s.peers := rfl
@[simp] theorem receiver_setDispatcher (s : State) (x : Dispatcher) : (s.setDispatcher x).receiver = s.receiver := rfl
@[simp] theorem dispatcher_setDispatcher (s : State) (x : Dispatcher) : (s.setDispatcher x).dispatcher = x := rfl
@[simp] theorem tx_setDispatcher (s : State) (x : Dispatcher) : (s.setDispatcher x).tx = s.tx := rfl
@[simp] theorem counters_setDispatcher (s : State) (x : Dispatcher) : (s.setDispatcher x).counters = s.counters := rfl
@[simp] theorem loader_setDispatcher (s : State) (x : Dispatcher) : (s.setDispatcher x).loader = s.loader := rfl
@[simp] theorem pins_setDispatcher (s : State) (x : Dispatcher) : (s.setDispatcher x).pins = s.pins := rfl
@[simp] theorem event_setDispatcher (s : State) (x : Dispatcher) : (s.setDispatcher x).event = s.event := rfl
@[simp] theorem pending_setDispatcher (s : State) (x : Dispatcher) : (s.setDispatcher x).pending = s.pending := rfl

@[simp] theorem base_setTx (s : State) (x : Transmitter) : (s.setTx x).base = s.base := rfl
@[simp] theorem programs_setTx (s : State) (x : Transmitter) : (s.setTx x).programs = s.programs := rfl
@[simp] theorem handovers_setTx (s : State) (x : Transmitter) : (s.setTx x).handovers = s.handovers := rfl
@[simp] theorem elements_setTx (s : State) (x : Transmitter) : (s.setTx x).elements = s.elements := rfl
@[simp] theorem gas_setTx (s : State) (x : Transmitter) : (s.setTx x).gas = s.gas := rfl
@[simp] theorem plan_setTx (s : State) (x : Transmitter) : (s.setTx x).plan = s.plan := rfl
@[simp] theorem arbiter_setTx (s : State) (x : Transmitter) : (s.setTx x).arbiter = s.arbiter := rfl
@[simp] theorem peers_setTx (s : State) (x : Transmitter) : (s.setTx x).peers = s.peers := rfl
@[simp] theorem receiver_setTx (s : State) (x : Transmitter) : (s.setTx x).receiver = s.receiver := rfl
@[simp] theorem dispatcher_setTx (s : State) (x : Transmitter) : (s.setTx x).dispatcher = s.dispatcher := rfl
@[simp] theorem tx_setTx (s : State) (x : Transmitter) : (s.setTx x).tx = x := rfl
@[simp] theorem counters_setTx (s : State) (x : Transmitter) : (s.setTx x).counters = s.counters := rfl
@[simp] theorem loader_setTx (s : State) (x : Transmitter) : (s.setTx x).loader = s.loader := rfl
@[simp] theorem pins_setTx (s : State) (x : Transmitter) : (s.setTx x).pins = s.pins := rfl
@[simp] theorem event_setTx (s : State) (x : Transmitter) : (s.setTx x).event = s.event := rfl
@[simp] theorem pending_setTx (s : State) (x : Transmitter) : (s.setTx x).pending = s.pending := rfl

@[simp] theorem base_setCounters (s : State) (x : Counters) : (s.setCounters x).base = s.base := rfl
@[simp] theorem programs_setCounters (s : State) (x : Counters) : (s.setCounters x).programs = s.programs := rfl
@[simp] theorem handovers_setCounters (s : State) (x : Counters) : (s.setCounters x).handovers = s.handovers := rfl
@[simp] theorem elements_setCounters (s : State) (x : Counters) : (s.setCounters x).elements = s.elements := rfl
@[simp] theorem gas_setCounters (s : State) (x : Counters) : (s.setCounters x).gas = s.gas := rfl
@[simp] theorem plan_setCounters (s : State) (x : Counters) : (s.setCounters x).plan = s.plan := rfl
@[simp] theorem arbiter_setCounters (s : State) (x : Counters) : (s.setCounters x).arbiter = s.arbiter := rfl
@[simp] theorem peers_setCounters (s : State) (x : Counters) : (s.setCounters x).peers = s.peers := rfl
@[simp] theorem receiver_setCounters (s : State) (x : Counters) : (s.setCounters x).receiver = s.receiver := rfl
@[simp] theorem dispatcher_setCounters (s : State) (x : Counters) : (s.setCounters x).dispatcher = s.dispatcher := rfl
@[simp] theorem tx_setCounters (s : State) (x : Counters) : (s.setCounters x).tx = s.tx := rfl
@[simp] theorem counters_setCounters (s : State) (x : Counters) : (s.setCounters x).counters = x := rfl
@[simp] theorem loader_setCounters (s : State) (x : Counters) : (s.setCounters x).loader = s.loader := rfl
@[simp] theorem pins_setCounters (s : State) (x : Counters) : (s.setCounters x).pins = s.pins := rfl
@[simp] theorem event_setCounters (s : State) (x : Counters) : (s.setCounters x).event = s.event := rfl
@[simp] theorem pending_setCounters (s : State) (x : Counters) : (s.setCounters x).pending = s.pending := rfl

@[simp] theorem base_setLoader (s : State) (x : OptionLoader) : (s.setLoader x).base = s.base := rfl
@[simp] theorem programs_setLoader (s : State) (x : OptionLoader) : (s.setLoader x).programs = s.programs := rfl
@[simp] theorem handovers_setLoader (s : State) (x : OptionLoader) : (s.setLoader x).handovers = s.handovers := rfl
@[simp] theorem elements_setLoader (s : State) (x : OptionLoader) : (s.setLoader x).elements = s.elements := rfl
@[simp] theorem gas_setLoader (s : State) (x : OptionLoader) : (s.setLoader x).gas = s.gas := rfl
@[simp] theorem plan_setLoader (s : State) (x : OptionLoader) : (s.setLoader x).plan = s.plan := rfl
@[simp] theorem arbiter_setLoader (s : State) (x : OptionLoader) : (s.setLoader x).arbiter = s.arbiter := rfl
@[simp] theorem peers_setLoader (s : State) (x : OptionLoader) : (s.setLoader x).peers = s.peers := rfl
@[simp] theorem receiver_setLoader (s : State) (x : OptionLoader) : (s.setLoader x).receiver = s.receiver := rfl
@[simp] theorem dispatcher_setLoader (s : State) (x : OptionLoader) : (s.setLoader x).dispatcher = s.dispatcher := rfl
@[simp] theorem tx_setLoader (s : State) (x : OptionLoader) : (s.setLoader x).tx = s.tx := rfl
@[simp] theorem counters_setLoader (s : State) (x : OptionLoader) : (s.setLoader x).counters = s.counters := rfl
@[simp] theorem loader_setLoader (s : State) (x : OptionLoader) : (s.setLoader x).loader = x := rfl
@[simp] theorem pins_setLoader (s : State) (x : OptionLoader) : (s.setLoader x).pins = s.pins := rfl
@[simp] theorem event_setLoader (s : State) (x : OptionLoader) : (s.setLoader x).event = s.event := rfl
@[simp] theorem pending_setLoader (s : State) (x : OptionLoader) : (s.setLoader x).pending = s.pending := rfl

@[simp] theorem base_setPins (s : State) (x : Pins) : (s.setPins x).base = s.base := rfl
@[simp] theorem programs_setPins (s : State) (x : Pins) : (s.setPins x).programs = s.programs := rfl
@[simp] theorem handovers_setPins (s : State) (x : Pins) : (s.setPins x).handovers = s.handovers := rfl
@[simp] theorem elements_setPins (s : State) (x : Pins) : (s.setPins x).elements = s.elements := rfl
@[simp] theorem gas_setPins (s : State) (x : Pins) : (s.setPins x).gas = s.gas := rfl
@[simp] theorem plan_setPins (s : State) (x : Pins) : (s.setPins x).plan = s.plan := rfl
@[simp] theorem arbiter_setPins (s : State) (x : Pins) : (s.setPins x).arbiter = s.arbiter := rfl
@[simp] theorem peers_setPins (s : State) (x : Pins) : (s.setPins x).peers = s.peers := rfl
@[simp] theorem receiver_setPins (s : State) (x : Pins) : (s.setPins x).receiver = s.receiver := rfl
@[simp] theorem dispatcher_setPins (s : State) (x : Pins) : (s.setPins x).dispatcher = s.dispatcher := rfl
@[simp] theorem tx_setPins (s : State) (x : Pins) : (s.setPins x).tx = s.tx := rfl
@[simp] theorem counters_setPins (s : State) (x : Pins) : (s.setPins x).counters = s.counters := rfl
@[simp] theorem loader_setPins (s : State) (x : Pins) : (s.setPins x).loader = s.loader := rfl
@[simp] theorem pins_setPins (s : State) (x : Pins) : (s.setPins x).pins = x := rfl
@[simp] theorem event_setPins (s : State) (x : Pins) : (s.setPins x).event = s.event := rfl
@[simp] theorem pending_setPins (s : State) (x : Pins) : (s.setPins x).pending = s.pending := rfl

@[simp] theorem base_setEvent (s : State) (x : EventWork) : (s.setEvent x).base = s.base := rfl
@[simp] theorem programs_setEvent (s : State) (x : EventWork) : (s.setEvent x).programs = s.programs := rfl
@[simp] theorem handovers_setEvent (s : State) (x : EventWork) : (s.setEvent x).handovers = s.handovers := rfl
@[simp] theorem elements_setEvent (s : State) (x : EventWork) : (s.setEvent x).elements = s.elements := rfl
@[simp] theorem gas_setEvent (s : State) (x : EventWork) : (s.setEvent x).gas = s.gas := rfl
@[simp] theorem plan_setEvent (s : State) (x : EventWork) : (s.setEvent x).plan = s.plan := rfl
@[simp] theorem arbiter_setEvent (s : State) (x : EventWork) : (s.setEvent x).arbiter = s.arbiter := rfl
@[simp] theorem peers_setEvent (s : State) (x : EventWork) : (s.setEvent x).peers = s.peers := rfl
@[simp] theorem receiver_setEvent (s : State) (x : EventWork) : (s.setEvent x).receiver = s.receiver := rfl
@[simp] theorem dispatcher_setEvent (s : State) (x : EventWork) : (s.setEvent x).dispatcher = s.dispatcher := rfl
@[simp] theorem tx_setEvent (s : State) (x : EventWork) : (s.setEvent x).tx = s.tx := rfl
@[simp] theorem counters_setEvent (s : State) (x : EventWork) : (s.setEvent x).counters = s.counters := rfl
@[simp] theorem loader_setEvent (s : State) (x : EventWork) : (s.setEvent x).loader = s.loader := rfl
@[simp] theorem pins_setEvent (s : State) (x : EventWork) : (s.setEvent x).pins = s.pins := rfl
@[simp] theorem event_setEvent (s : State) (x : EventWork) : (s.setEvent x).event = x := rfl
@[simp] theorem pending_setEvent (s : State) (x : EventWork) : (s.setEvent x).pending = s.pending := rfl

@[simp] theorem base_setPending (s : State) (x : List Instr) : (s.setPending x).base = s.base := rfl
@[simp] theorem programs_setPending (s : State) (x : List Instr) : (s.setPending x).programs = s.programs := rfl
@[simp] theorem handovers_setPending (s : State) (x : List Instr) : (s.setPending x).handovers = s.handovers := rfl
@[simp] theorem elements_setPending (s : State) (x : List Instr) : (s.setPending x).elements = s.elements := rfl
@[simp] theorem gas_setPending (s : State) (x : List Instr) : (s.setPending x).gas = s.gas := rfl
@[simp] theorem plan_setPending (s : State) (x : List Instr) : (s.setPending x).plan = s.plan := rfl
@[simp] theorem arbiter_setPending (s : State) (x : List Instr) : (s.setPending x).arbiter = s.arbiter := rfl
@[simp] theorem peers_setPending (s : State) (x : List Instr) : (s.setPending x).peers = s.peers := rfl
@[simp] theorem receiver_setPending (s : State) (x : List Instr) : (s.setPending x).receiver = s.receiver := rfl
@[simp] theorem dispatcher_setPending (s : State) (x : List Instr) : (s.setPending x).dispatcher = s.dispatcher := rfl
@[simp] theorem tx_setPending (s : State) (x : List Instr) : (s.setPending x).tx = s.tx := rfl
@[simp] theorem counters_setPending (s : State) (x : List Instr) : (s.setPending x).counters = s.counters := rfl
@[simp] theorem loader_setPending (s : State) (x : List Instr) : (s.setPending x).loader = s.loader := rfl
@[simp] theorem pins_setPending (s : State) (x : List Instr) : (s.setPending x).pins = s.pins := rfl
@[simp] theorem event_setPending (s : State) (x : List Instr) : (s.setPending x).event = s.event := rfl
@[simp] theorem pending_setPending (s : State) (x : List Instr) : (s.setPending x).pending = x := rfl

end Sys2Proof.Machine.State
end

