-- ==== Sys2Proof/Laws/Ops.lean ====
section
/-!
SUPPORT. Laws/Ops.lean: what the shared operations of Machine/Flags.lean and Machine/Ops.lean change, one lemma each.
-/

namespace Sys2Proof.Machine

/-- What a request's flag reads after the flag of the same request was replaced. -/
@[simp] theorem flagOf_setFlagOf_self (tx : Transmitter) (r : Request) (f : Flag) : flagOf (setFlagOf tx r f) r = f := by
  rcases r with _ | _ | _ | ⟨k, c⟩
  · rfl
  · rfl
  · rfl
  · cases k <;> simp [flagOf, setFlagOf, channelFlags, setChannelFlags]

/-- Replacing one request's flag leaves every other request's. -/
theorem flagOf_setFlagOf_of_ne (tx : Transmitter) (r q : Request) (f : Flag) (h : q ≠ r) :
    flagOf (setFlagOf tx r f) q = flagOf tx q := by
  rcases r with _ | _ | _ | ⟨k, c⟩ <;> rcases q with _ | _ | _ | ⟨l, d⟩ <;>
    first
      | rfl
      | exact absurd rfl h
      | (cases k <;> rfl)
      | skip
  have hv : k = l → c.val ≠ d.val := fun e v => h (by rw [e, Fin.ext v])
  cases k <;> cases l <;>
    first
      | (have w := hv rfl; simp [flagOf, setFlagOf, channelFlags, setChannelFlags, w])
      | rfl

/-- Whether a request's flag is set. -/
def flagSet (s : State) (r : Request) : Bool := (flagOf s.tx r).isSet

theorem flagSet_raiseFlag (r q : Request) (s : State) :
    flagSet (raiseFlag r s) q = if q = r then true else flagSet s q := by
  by_cases h : q = r
  · subst h; simp [flagSet, raiseFlag, raised]
  · simp [flagSet, raiseFlag, h, flagOf_setFlagOf_of_ne _ _ _ _ h]

theorem flagSet_lowerFlag (r q : Request) (s : State) :
    flagSet (lowerFlag r s) q = if q = r then false else flagSet s q := by
  by_cases h : q = r
  · subst h; simp [flagSet, lowerFlag, lowered]
  · simp [flagSet, lowerFlag, h, flagOf_setFlagOf_of_ne _ _ _ _ h]


/-- `raiseFlag` changes at most tx. -/
@[simp] theorem raiseFlag_frame (r : Request) (s : State) :
    (raiseFlag r s).base = s.base ∧ (raiseFlag r s).programs = s.programs ∧ (raiseFlag r s).handovers = s.handovers ∧
    (raiseFlag r s).elements = s.elements ∧ (raiseFlag r s).gas = s.gas ∧ (raiseFlag r s).plan = s.plan ∧ (raiseFlag r
    s).arbiter = s.arbiter ∧ (raiseFlag r s).peers = s.peers ∧ (raiseFlag r s).receiver = s.receiver ∧ (raiseFlag r
    s).dispatcher = s.dispatcher ∧ (raiseFlag r s).counters = s.counters ∧ (raiseFlag r s).loader = s.loader ∧
    (raiseFlag r s).pins = s.pins ∧ (raiseFlag r s).event = s.event ∧ (raiseFlag r s).pending = s.pending := by
  simp [raiseFlag]

/-- `lowerFlag` changes at most tx. -/
@[simp] theorem lowerFlag_frame (r : Request) (s : State) :
    (lowerFlag r s).base = s.base ∧ (lowerFlag r s).programs = s.programs ∧ (lowerFlag r s).handovers = s.handovers ∧
    (lowerFlag r s).elements = s.elements ∧ (lowerFlag r s).gas = s.gas ∧ (lowerFlag r s).plan = s.plan ∧ (lowerFlag r
    s).arbiter = s.arbiter ∧ (lowerFlag r s).peers = s.peers ∧ (lowerFlag r s).receiver = s.receiver ∧ (lowerFlag r
    s).dispatcher = s.dispatcher ∧ (lowerFlag r s).counters = s.counters ∧ (lowerFlag r s).loader = s.loader ∧
    (lowerFlag r s).pins = s.pins ∧ (lowerFlag r s).event = s.event ∧ (lowerFlag r s).pending = s.pending := by
  simp [lowerFlag]

/-- `raiseClaim` changes at most tx. -/
@[simp] theorem raiseClaim_frame (c : Channel) (s : State) :
    (raiseClaim c s).base = s.base ∧ (raiseClaim c s).programs = s.programs ∧ (raiseClaim c s).handovers = s.handovers
    ∧ (raiseClaim c s).elements = s.elements ∧ (raiseClaim c s).gas = s.gas ∧ (raiseClaim c s).plan = s.plan ∧
    (raiseClaim c s).arbiter = s.arbiter ∧ (raiseClaim c s).peers = s.peers ∧ (raiseClaim c s).receiver = s.receiver ∧
    (raiseClaim c s).dispatcher = s.dispatcher ∧ (raiseClaim c s).counters = s.counters ∧ (raiseClaim c s).loader =
    s.loader ∧ (raiseClaim c s).pins = s.pins ∧ (raiseClaim c s).event = s.event ∧ (raiseClaim c s).pending =
    s.pending := by
  simp [raiseClaim]

/-- `raiseRelease` changes at most tx. -/
@[simp] theorem raiseRelease_frame (c : Channel) (s : State) :
    (raiseRelease c s).base = s.base ∧ (raiseRelease c s).programs = s.programs ∧ (raiseRelease c s).handovers =
    s.handovers ∧ (raiseRelease c s).elements = s.elements ∧ (raiseRelease c s).gas = s.gas ∧ (raiseRelease c s).plan
    = s.plan ∧ (raiseRelease c s).arbiter = s.arbiter ∧ (raiseRelease c s).peers = s.peers ∧ (raiseRelease c
    s).receiver = s.receiver ∧ (raiseRelease c s).dispatcher = s.dispatcher ∧ (raiseRelease c s).counters = s.counters
    ∧ (raiseRelease c s).loader = s.loader ∧ (raiseRelease c s).pins = s.pins ∧ (raiseRelease c s).event = s.event ∧
    (raiseRelease c s).pending = s.pending := by
  simp [raiseRelease]

/-- `raiseState` changes at most tx. -/
@[simp] theorem raiseState_frame (c : Channel) (s : State) :
    (raiseState c s).base = s.base ∧ (raiseState c s).programs = s.programs ∧ (raiseState c s).handovers = s.handovers
    ∧ (raiseState c s).elements = s.elements ∧ (raiseState c s).gas = s.gas ∧ (raiseState c s).plan = s.plan ∧
    (raiseState c s).arbiter = s.arbiter ∧ (raiseState c s).peers = s.peers ∧ (raiseState c s).receiver = s.receiver ∧
    (raiseState c s).dispatcher = s.dispatcher ∧ (raiseState c s).counters = s.counters ∧ (raiseState c s).loader =
    s.loader ∧ (raiseState c s).pins = s.pins ∧ (raiseState c s).event = s.event ∧ (raiseState c s).pending =
    s.pending := by
  simp [raiseState]

/-- `raiseSpark` changes at most tx. -/
@[simp] theorem raiseSpark_frame (c : Channel) (s : State) :
    (raiseSpark c s).base = s.base ∧ (raiseSpark c s).programs = s.programs ∧ (raiseSpark c s).handovers = s.handovers
    ∧ (raiseSpark c s).elements = s.elements ∧ (raiseSpark c s).gas = s.gas ∧ (raiseSpark c s).plan = s.plan ∧
    (raiseSpark c s).arbiter = s.arbiter ∧ (raiseSpark c s).peers = s.peers ∧ (raiseSpark c s).receiver = s.receiver ∧
    (raiseSpark c s).dispatcher = s.dispatcher ∧ (raiseSpark c s).counters = s.counters ∧ (raiseSpark c s).loader =
    s.loader ∧ (raiseSpark c s).pins = s.pins ∧ (raiseSpark c s).event = s.event ∧ (raiseSpark c s).pending =
    s.pending := by
  simp [raiseSpark]

/-- `raiseSparkFree` changes at most tx, arbiter. -/
@[simp] theorem raiseSparkFree_frame (c : Channel) (s : State) :
    (raiseSparkFree c s).base = s.base ∧ (raiseSparkFree c s).programs = s.programs ∧ (raiseSparkFree c s).handovers =
    s.handovers ∧ (raiseSparkFree c s).elements = s.elements ∧ (raiseSparkFree c s).gas = s.gas ∧ (raiseSparkFree c
    s).plan = s.plan ∧ (raiseSparkFree c s).peers = s.peers ∧ (raiseSparkFree c s).receiver = s.receiver ∧
    (raiseSparkFree c s).dispatcher = s.dispatcher ∧ (raiseSparkFree c s).counters = s.counters ∧ (raiseSparkFree c
    s).loader = s.loader ∧ (raiseSparkFree c s).pins = s.pins ∧ (raiseSparkFree c s).event = s.event ∧ (raiseSparkFree
    c s).pending = s.pending := by
  simp [raiseSparkFree]

@[simp] theorem raiseSparkFree_queue (c : Channel) (s : State) :
    (raiseSparkFree c s).arbiter.queue = s.arbiter.queue ∧ (raiseSparkFree c s).arbiter.dwell = s.arbiter.dwell := by
  simp [raiseSparkFree]

/-- `countCheckError` changes at most counters. -/
@[simp] theorem countCheckError_frame (s : State) :
    (countCheckError s).base = s.base ∧ (countCheckError s).programs = s.programs ∧ (countCheckError s).handovers =
    s.handovers ∧ (countCheckError s).elements = s.elements ∧ (countCheckError s).gas = s.gas ∧ (countCheckError
    s).plan = s.plan ∧ (countCheckError s).arbiter = s.arbiter ∧ (countCheckError s).peers = s.peers ∧
    (countCheckError s).receiver = s.receiver ∧ (countCheckError s).dispatcher = s.dispatcher ∧ (countCheckError s).tx
    = s.tx ∧ (countCheckError s).loader = s.loader ∧ (countCheckError s).pins = s.pins ∧ (countCheckError s).event =
    s.event ∧ (countCheckError s).pending = s.pending := by
  simp [countCheckError]

/-- `countCollision` changes at most counters. -/
@[simp] theorem countCollision_frame (s : State) :
    (countCollision s).base = s.base ∧ (countCollision s).programs = s.programs ∧ (countCollision s).handovers =
    s.handovers ∧ (countCollision s).elements = s.elements ∧ (countCollision s).gas = s.gas ∧ (countCollision s).plan
    = s.plan ∧ (countCollision s).arbiter = s.arbiter ∧ (countCollision s).peers = s.peers ∧ (countCollision
    s).receiver = s.receiver ∧ (countCollision s).dispatcher = s.dispatcher ∧ (countCollision s).tx = s.tx ∧
    (countCollision s).loader = s.loader ∧ (countCollision s).pins = s.pins ∧ (countCollision s).event = s.event ∧
    (countCollision s).pending = s.pending := by
  simp [countCollision]

/-- `countFifoOverflow` changes at most counters. -/
@[simp] theorem countFifoOverflow_frame (s : State) :
    (countFifoOverflow s).base = s.base ∧ (countFifoOverflow s).programs = s.programs ∧ (countFifoOverflow
    s).handovers = s.handovers ∧ (countFifoOverflow s).elements = s.elements ∧ (countFifoOverflow s).gas = s.gas ∧
    (countFifoOverflow s).plan = s.plan ∧ (countFifoOverflow s).arbiter = s.arbiter ∧ (countFifoOverflow s).peers =
    s.peers ∧ (countFifoOverflow s).receiver = s.receiver ∧ (countFifoOverflow s).dispatcher = s.dispatcher ∧
    (countFifoOverflow s).tx = s.tx ∧ (countFifoOverflow s).loader = s.loader ∧ (countFifoOverflow s).pins = s.pins ∧
    (countFifoOverflow s).event = s.event ∧ (countFifoOverflow s).pending = s.pending := by
  simp [countFifoOverflow]

/-- `countPhaseAdjust` changes at most counters. -/
@[simp] theorem countPhaseAdjust_frame (s : State) :
    (countPhaseAdjust s).base = s.base ∧ (countPhaseAdjust s).programs = s.programs ∧ (countPhaseAdjust s).handovers =
    s.handovers ∧ (countPhaseAdjust s).elements = s.elements ∧ (countPhaseAdjust s).gas = s.gas ∧ (countPhaseAdjust
    s).plan = s.plan ∧ (countPhaseAdjust s).arbiter = s.arbiter ∧ (countPhaseAdjust s).peers = s.peers ∧
    (countPhaseAdjust s).receiver = s.receiver ∧ (countPhaseAdjust s).dispatcher = s.dispatcher ∧ (countPhaseAdjust
    s).tx = s.tx ∧ (countPhaseAdjust s).loader = s.loader ∧ (countPhaseAdjust s).pins = s.pins ∧ (countPhaseAdjust
    s).event = s.event ∧ (countPhaseAdjust s).pending = s.pending := by
  simp [countPhaseAdjust]

/-- `countShed` changes at most counters. -/
@[simp] theorem countShed_frame (s : State) :
    (countShed s).base = s.base ∧ (countShed s).programs = s.programs ∧ (countShed s).handovers = s.handovers ∧
    (countShed s).elements = s.elements ∧ (countShed s).gas = s.gas ∧ (countShed s).plan = s.plan ∧ (countShed
    s).arbiter = s.arbiter ∧ (countShed s).peers = s.peers ∧ (countShed s).receiver = s.receiver ∧ (countShed
    s).dispatcher = s.dispatcher ∧ (countShed s).tx = s.tx ∧ (countShed s).loader = s.loader ∧ (countShed s).pins =
    s.pins ∧ (countShed s).event = s.event ∧ (countShed s).pending = s.pending := by
  simp [countShed]

/-- `countIgnitionFail` changes at most counters. -/
@[simp] theorem countIgnitionFail_frame (s : State) :
    (countIgnitionFail s).base = s.base ∧ (countIgnitionFail s).programs = s.programs ∧ (countIgnitionFail
    s).handovers = s.handovers ∧ (countIgnitionFail s).elements = s.elements ∧ (countIgnitionFail s).gas = s.gas ∧
    (countIgnitionFail s).plan = s.plan ∧ (countIgnitionFail s).arbiter = s.arbiter ∧ (countIgnitionFail s).peers =
    s.peers ∧ (countIgnitionFail s).receiver = s.receiver ∧ (countIgnitionFail s).dispatcher = s.dispatcher ∧
    (countIgnitionFail s).tx = s.tx ∧ (countIgnitionFail s).loader = s.loader ∧ (countIgnitionFail s).pins = s.pins ∧
    (countIgnitionFail s).event = s.event ∧ (countIgnitionFail s).pending = s.pending := by
  simp [countIgnitionFail]

/-- `countFlameLoss` changes at most counters. -/
@[simp] theorem countFlameLoss_frame (s : State) :
    (countFlameLoss s).base = s.base ∧ (countFlameLoss s).programs = s.programs ∧ (countFlameLoss s).handovers =
    s.handovers ∧ (countFlameLoss s).elements = s.elements ∧ (countFlameLoss s).gas = s.gas ∧ (countFlameLoss s).plan
    = s.plan ∧ (countFlameLoss s).arbiter = s.arbiter ∧ (countFlameLoss s).peers = s.peers ∧ (countFlameLoss
    s).receiver = s.receiver ∧ (countFlameLoss s).dispatcher = s.dispatcher ∧ (countFlameLoss s).tx = s.tx ∧
    (countFlameLoss s).loader = s.loader ∧ (countFlameLoss s).pins = s.pins ∧ (countFlameLoss s).event = s.event ∧
    (countFlameLoss s).pending = s.pending := by
  simp [countFlameLoss]

/-- `countSparkConflict` changes at most counters. -/
@[simp] theorem countSparkConflict_frame (s : State) :
    (countSparkConflict s).base = s.base ∧ (countSparkConflict s).programs = s.programs ∧ (countSparkConflict
    s).handovers = s.handovers ∧ (countSparkConflict s).elements = s.elements ∧ (countSparkConflict s).gas = s.gas ∧
    (countSparkConflict s).plan = s.plan ∧ (countSparkConflict s).arbiter = s.arbiter ∧ (countSparkConflict s).peers =
    s.peers ∧ (countSparkConflict s).receiver = s.receiver ∧ (countSparkConflict s).dispatcher = s.dispatcher ∧
    (countSparkConflict s).tx = s.tx ∧ (countSparkConflict s).loader = s.loader ∧ (countSparkConflict s).pins = s.pins
    ∧ (countSparkConflict s).event = s.event ∧ (countSparkConflict s).pending = s.pending := by
  simp [countSparkConflict]

/-- `handOver` changes at most handovers. -/
@[simp] theorem handOver_frame (c : Channel) (l : Nat) (s : State) :
    (handOver c l s).base = s.base ∧ (handOver c l s).programs = s.programs ∧ (handOver c l s).elements = s.elements ∧
    (handOver c l s).gas = s.gas ∧ (handOver c l s).plan = s.plan ∧ (handOver c l s).arbiter = s.arbiter ∧ (handOver c
    l s).peers = s.peers ∧ (handOver c l s).receiver = s.receiver ∧ (handOver c l s).dispatcher = s.dispatcher ∧
    (handOver c l s).tx = s.tx ∧ (handOver c l s).counters = s.counters ∧ (handOver c l s).loader = s.loader ∧
    (handOver c l s).pins = s.pins ∧ (handOver c l s).event = s.event ∧ (handOver c l s).pending = s.pending := by
  simp [handOver]

/-- `updateProgram` changes at most programs, handovers. -/
@[simp] theorem updateProgram_frame (c : Channel) (p : Program) (s : State) :
    (updateProgram c p s).base = s.base ∧ (updateProgram c p s).elements = s.elements ∧ (updateProgram c p s).gas =
    s.gas ∧ (updateProgram c p s).plan = s.plan ∧ (updateProgram c p s).arbiter = s.arbiter ∧ (updateProgram c p
    s).peers = s.peers ∧ (updateProgram c p s).receiver = s.receiver ∧ (updateProgram c p s).dispatcher = s.dispatcher
    ∧ (updateProgram c p s).tx = s.tx ∧ (updateProgram c p s).counters = s.counters ∧ (updateProgram c p s).loader =
    s.loader ∧ (updateProgram c p s).pins = s.pins ∧ (updateProgram c p s).event = s.event ∧ (updateProgram c p
    s).pending = s.pending := by
  unfold updateProgram; split <;> simp

/-- An updated record is the channel's record. -/
@[simp] theorem updateProgram_programs (c : Channel) (p : Program) (s : State) :
    (updateProgram c p s).programs = s.programs.set c p := by
  unfold updateProgram; split <;> simp

/-- A changed level is handed over, and only a changed one (R22). -/
theorem updateProgram_handovers (c : Channel) (p : Program) (s : State) :
    (updateProgram c p s).handovers =
      if effectiveLevel p = effectiveLevel s.programs[c] then s.handovers
      else s.handovers.set c (s.handovers[c] ++ [effectiveLevel p]) := by
  unfold updateProgram; split <;> simp [handOver]

/-- `refuse` changes at most programs, tx. -/
@[simp] theorem refuse_frame (c : Channel) (s : State) :
    (refuse c s).base = s.base ∧ (refuse c s).handovers = s.handovers ∧ (refuse c s).elements = s.elements ∧ (refuse c
    s).gas = s.gas ∧ (refuse c s).plan = s.plan ∧ (refuse c s).arbiter = s.arbiter ∧ (refuse c s).peers = s.peers ∧
    (refuse c s).receiver = s.receiver ∧ (refuse c s).dispatcher = s.dispatcher ∧ (refuse c s).counters = s.counters ∧
    (refuse c s).loader = s.loader ∧ (refuse c s).pins = s.pins ∧ (refuse c s).event = s.event ∧ (refuse c s).pending
    = s.pending := by
  simp [refuse]

/-- `noteChannel` changes at most tx. -/
@[simp] theorem noteChannel_frame (b s : State) (c : Channel) :
    (noteChannel b s c).base = s.base ∧ (noteChannel b s c).programs = s.programs ∧ (noteChannel b s c).handovers =
    s.handovers ∧ (noteChannel b s c).elements = s.elements ∧ (noteChannel b s c).gas = s.gas ∧ (noteChannel b s
    c).plan = s.plan ∧ (noteChannel b s c).arbiter = s.arbiter ∧ (noteChannel b s c).peers = s.peers ∧ (noteChannel b
    s c).receiver = s.receiver ∧ (noteChannel b s c).dispatcher = s.dispatcher ∧ (noteChannel b s c).counters =
    s.counters ∧ (noteChannel b s c).loader = s.loader ∧ (noteChannel b s c).pins = s.pins ∧ (noteChannel b s c).event
    = s.event ∧ (noteChannel b s c).pending = s.pending := by
  unfold noteChannel; split <;> simp

/-- `noteReports` changes at most tx. -/
@[simp] theorem noteReports_frame (b s : State) :
    (noteReports b s).base = s.base ∧ (noteReports b s).programs = s.programs ∧ (noteReports b s).handovers =
    s.handovers ∧ (noteReports b s).elements = s.elements ∧ (noteReports b s).gas = s.gas ∧ (noteReports b s).plan =
    s.plan ∧ (noteReports b s).arbiter = s.arbiter ∧ (noteReports b s).peers = s.peers ∧ (noteReports b s).receiver =
    s.receiver ∧ (noteReports b s).dispatcher = s.dispatcher ∧ (noteReports b s).counters = s.counters ∧ (noteReports
    b s).loader = s.loader ∧ (noteReports b s).pins = s.pins ∧ (noteReports b s).event = s.event ∧ (noteReports b
    s).pending = s.pending := by
  simp [noteReports, allChannels]

/-- The reports of a channel read neither the hand-overs nor what an event has done to no reported field. -/
theorem noteReports_setHandovers (c : Channel) (l : List Nat) (b s : State) :
    noteReports (b.setHandovers c l) s = noteReports b s := rfl

theorem noteReports_self (s : State) : noteReports s s = s := by
  simp [noteReports, noteChannel, allChannels]

/-- A block's event with its reports leaves what the event leaves, but for the pending flags. -/
@[simp] theorem reporting_frame (f : State → State) (s : State) :
    (reporting f s).base = (f s).base ∧ (reporting f s).programs = (f s).programs ∧
    (reporting f s).handovers = (f s).handovers ∧ (reporting f s).elements = (f s).elements ∧
    (reporting f s).gas = (f s).gas ∧ (reporting f s).plan = (f s).plan ∧ (reporting f s).arbiter = (f s).arbiter ∧
    (reporting f s).peers = (f s).peers ∧ (reporting f s).receiver = (f s).receiver ∧
    (reporting f s).dispatcher = (f s).dispatcher ∧ (reporting f s).counters = (f s).counters ∧
    (reporting f s).loader = (f s).loader ∧ (reporting f s).pins = (f s).pins ∧ (reporting f s).event = (f s).event ∧
    (reporting f s).pending = (f s).pending := by
  simp [reporting]

/-- Reports never clear a flag. -/
theorem flagSet_noteChannel (b s : State) (c : Channel) (q : Request) (h : flagSet s q = true) :
    flagSet (noteChannel b s c) q = true := by
  unfold noteChannel
  split
  · exact h
  · unfold raiseState
    rw [flagSet_raiseFlag]
    split <;> simp [h]

theorem flagSet_noteReports (b s : State) (q : Request) (h : flagSet s q = true) :
    flagSet (noteReports b s) q = true := by
  simp only [noteReports, allChannels, List.foldl_cons, List.foldl_nil]
  exact flagSet_noteChannel _ _ _ _ (flagSet_noteChannel _ _ _ _ (flagSet_noteChannel _ _ _ _ (flagSet_noteChannel _ _ _ _ h)))

/-- A report raises no flag but state-pending. -/
theorem flagOf_noteChannel (b s : State) (c : Channel) (q : Request) (h : ∀ d, q ≠ .ofChannel .state d) :
    flagOf (noteChannel b s c).tx q = flagOf s.tx q := by
  unfold noteChannel
  split
  · rfl
  · simp [raiseState, raiseFlag, flagOf_setFlagOf_of_ne _ _ _ _ (h c)]

theorem flagOf_noteReports (b s : State) (q : Request) (h : ∀ d, q ≠ .ofChannel .state d) :
    flagOf (noteReports b s).tx q = flagOf s.tx q := by
  simp only [noteReports, allChannels, List.foldl_cons, List.foldl_nil, flagOf_noteChannel _ _ _ _ h]

/-- Settings of flags leave the selection, the frame in flight and the attempt mark. -/
@[simp] theorem setFlagOf_line (tx : Transmitter) (r : Request) (f : Flag) :
    (setFlagOf tx r f).selection = tx.selection ∧ (setFlagOf tx r f).sent = tx.sent ∧
    (setFlagOf tx r f).attempted = tx.attempted := by
  rcases r with _ | _ | _ | ⟨k, c⟩
  · simp [setFlagOf]
  · simp [setFlagOf]
  · simp [setFlagOf]
  · cases k <;> simp [setFlagOf, setChannelFlags]

@[simp] theorem raiseFlag_line (r : Request) (s : State) :
    (raiseFlag r s).tx.selection = s.tx.selection ∧ (raiseFlag r s).tx.sent = s.tx.sent ∧
    (raiseFlag r s).tx.attempted = s.tx.attempted := by
  simp [raiseFlag]

@[simp] theorem lowerFlag_line (r : Request) (s : State) :
    (lowerFlag r s).tx.selection = s.tx.selection ∧ (lowerFlag r s).tx.sent = s.tx.sent ∧
    (lowerFlag r s).tx.attempted = s.tx.attempted := by
  simp [lowerFlag]

@[simp] theorem noteReports_line (b s : State) :
    (noteReports b s).tx.selection = s.tx.selection ∧ (noteReports b s).tx.sent = s.tx.sent ∧
    (noteReports b s).tx.attempted = s.tx.attempted := by
  have h : ∀ (u : State) (c : Channel), (noteChannel b u c).tx.selection = u.tx.selection ∧
      (noteChannel b u c).tx.sent = u.tx.sent ∧ (noteChannel b u c).tx.attempted = u.tx.attempted := by
    intro u c
    unfold noteChannel
    split <;> simp [raiseState]
  simp [noteReports, allChannels, h]

/-- `openRelays` changes at most elements. -/
@[simp] theorem openRelays_frame (s : State) :
    (openRelays s).base = s.base ∧ (openRelays s).programs = s.programs ∧ (openRelays s).handovers = s.handovers ∧
    (openRelays s).gas = s.gas ∧ (openRelays s).plan = s.plan ∧ (openRelays s).arbiter = s.arbiter ∧ (openRelays
    s).peers = s.peers ∧ (openRelays s).receiver = s.receiver ∧ (openRelays s).dispatcher = s.dispatcher ∧ (openRelays
    s).tx = s.tx ∧ (openRelays s).counters = s.counters ∧ (openRelays s).loader = s.loader ∧ (openRelays s).pins =
    s.pins ∧ (openRelays s).event = s.event ∧ (openRelays s).pending = s.pending := by
  simp [openRelays]

/-- `sparksOff` changes at most gas. -/
@[simp] theorem sparksOff_frame (s : State) :
    (sparksOff s).base = s.base ∧ (sparksOff s).programs = s.programs ∧ (sparksOff s).handovers = s.handovers ∧
    (sparksOff s).elements = s.elements ∧ (sparksOff s).plan = s.plan ∧ (sparksOff s).arbiter = s.arbiter ∧ (sparksOff
    s).peers = s.peers ∧ (sparksOff s).receiver = s.receiver ∧ (sparksOff s).dispatcher = s.dispatcher ∧ (sparksOff
    s).tx = s.tx ∧ (sparksOff s).counters = s.counters ∧ (sparksOff s).loader = s.loader ∧ (sparksOff s).pins = s.pins
    ∧ (sparksOff s).event = s.event ∧ (sparksOff s).pending = s.pending := by
  simp [sparksOff]

/-- `closeValves` changes at most gas. -/
@[simp] theorem closeValves_frame (s : State) :
    (closeValves s).base = s.base ∧ (closeValves s).programs = s.programs ∧ (closeValves s).handovers = s.handovers ∧
    (closeValves s).elements = s.elements ∧ (closeValves s).plan = s.plan ∧ (closeValves s).arbiter = s.arbiter ∧
    (closeValves s).peers = s.peers ∧ (closeValves s).receiver = s.receiver ∧ (closeValves s).dispatcher =
    s.dispatcher ∧ (closeValves s).tx = s.tx ∧ (closeValves s).counters = s.counters ∧ (closeValves s).loader =
    s.loader ∧ (closeValves s).pins = s.pins ∧ (closeValves s).event = s.event ∧ (closeValves s).pending = s.pending := by
  simp [closeValves]

/-- `outputsOff` changes at most elements, gas. -/
@[simp] theorem outputsOff_frame (s : State) :
    (outputsOff s).base = s.base ∧ (outputsOff s).programs = s.programs ∧ (outputsOff s).handovers = s.handovers ∧
    (outputsOff s).plan = s.plan ∧ (outputsOff s).arbiter = s.arbiter ∧ (outputsOff s).peers = s.peers ∧ (outputsOff
    s).receiver = s.receiver ∧ (outputsOff s).dispatcher = s.dispatcher ∧ (outputsOff s).tx = s.tx ∧ (outputsOff
    s).counters = s.counters ∧ (outputsOff s).loader = s.loader ∧ (outputsOff s).pins = s.pins ∧ (outputsOff s).event
    = s.event ∧ (outputsOff s).pending = s.pending := by
  simp [outputsOff]

/-- The counters' saturation keeps the range of R164. -/
theorem saturate_le (n : Nat) (h : n ≤ 255) : saturate n ≤ 255 := by
  unfold saturate; split <;> omega

end Sys2Proof.Machine
end

