-- ==== Sys2Proof/Laws/Programs.lean ====
section
/-!
SUPPORT. Laws/Programs.lean: what the Zone Program Unit's operations change.
-/

namespace Sys2Proof.Machine

/-- `programOn` changes at most programs, handovers, tx. -/
@[simp] theorem programOn_frame (n : ProgramNotice) (c : Channel) (s : State) :
    (programOn n c s).base = s.base ∧ (programOn n c s).elements = s.elements ∧ (programOn n c s).gas = s.gas ∧
    (programOn n c s).plan = s.plan ∧ (programOn n c s).arbiter = s.arbiter ∧ (programOn n c s).peers = s.peers ∧
    (programOn n c s).receiver = s.receiver ∧ (programOn n c s).dispatcher = s.dispatcher ∧ (programOn n c s).counters
    = s.counters ∧ (programOn n c s).loader = s.loader ∧ (programOn n c s).pins = s.pins ∧ (programOn n c s).event =
    s.event ∧ (programOn n c s).pending = s.pending := by
  unfold programOn; (repeat' split) <;> simp

/-- `startOn` changes at most programs, handovers, tx. -/
@[simp] theorem startOn_frame (c : Channel) (s : State) :
    (startOn c s).base = s.base ∧ (startOn c s).elements = s.elements ∧ (startOn c s).gas = s.gas ∧ (startOn c s).plan
    = s.plan ∧ (startOn c s).arbiter = s.arbiter ∧ (startOn c s).peers = s.peers ∧ (startOn c s).receiver = s.receiver
    ∧ (startOn c s).dispatcher = s.dispatcher ∧ (startOn c s).counters = s.counters ∧ (startOn c s).loader = s.loader
    ∧ (startOn c s).pins = s.pins ∧ (startOn c s).event = s.event ∧ (startOn c s).pending = s.pending := by
  unfold startOn; (repeat' split) <;> simp

/-- `holdOn` changes at most programs, handovers, tx. -/
@[simp] theorem holdOn_frame (c : Channel) (s : State) :
    (holdOn c s).base = s.base ∧ (holdOn c s).elements = s.elements ∧ (holdOn c s).gas = s.gas ∧ (holdOn c s).plan =
    s.plan ∧ (holdOn c s).arbiter = s.arbiter ∧ (holdOn c s).peers = s.peers ∧ (holdOn c s).receiver = s.receiver ∧
    (holdOn c s).dispatcher = s.dispatcher ∧ (holdOn c s).counters = s.counters ∧ (holdOn c s).loader = s.loader ∧
    (holdOn c s).pins = s.pins ∧ (holdOn c s).event = s.event ∧ (holdOn c s).pending = s.pending := by
  unfold holdOn; (repeat' split) <;> simp

/-- `resumeOn` changes at most programs, handovers, tx. -/
@[simp] theorem resumeOn_frame (c : Channel) (s : State) :
    (resumeOn c s).base = s.base ∧ (resumeOn c s).elements = s.elements ∧ (resumeOn c s).gas = s.gas ∧ (resumeOn c
    s).plan = s.plan ∧ (resumeOn c s).arbiter = s.arbiter ∧ (resumeOn c s).peers = s.peers ∧ (resumeOn c s).receiver =
    s.receiver ∧ (resumeOn c s).dispatcher = s.dispatcher ∧ (resumeOn c s).counters = s.counters ∧ (resumeOn c
    s).loader = s.loader ∧ (resumeOn c s).pins = s.pins ∧ (resumeOn c s).event = s.event ∧ (resumeOn c s).pending =
    s.pending := by
  unfold resumeOn; (repeat' split) <;> simp

/-- `takeCount` changes at most programs, event. -/
@[simp] theorem takeCount_frame (c : Channel) (s : State) :
    (takeCount c s).base = s.base ∧ (takeCount c s).handovers = s.handovers ∧ (takeCount c s).elements = s.elements ∧
    (takeCount c s).gas = s.gas ∧ (takeCount c s).plan = s.plan ∧ (takeCount c s).arbiter = s.arbiter ∧ (takeCount c
    s).peers = s.peers ∧ (takeCount c s).receiver = s.receiver ∧ (takeCount c s).dispatcher = s.dispatcher ∧
    (takeCount c s).tx = s.tx ∧ (takeCount c s).counters = s.counters ∧ (takeCount c s).loader = s.loader ∧ (takeCount
    c s).pins = s.pins ∧ (takeCount c s).pending = s.pending := by
  unfold takeCount; dsimp only; (repeat' split) <;> simp

/-- `secondStep` changes at most programs, event, tx. -/
@[simp] theorem secondStep_frame (c : Channel) (s : State) :
    (secondStep c s).base = s.base ∧ (secondStep c s).handovers = s.handovers ∧ (secondStep c s).elements = s.elements
    ∧ (secondStep c s).gas = s.gas ∧ (secondStep c s).plan = s.plan ∧ (secondStep c s).arbiter = s.arbiter ∧
    (secondStep c s).peers = s.peers ∧ (secondStep c s).receiver = s.receiver ∧ (secondStep c s).dispatcher =
    s.dispatcher ∧ (secondStep c s).counters = s.counters ∧ (secondStep c s).loader = s.loader ∧ (secondStep c s).pins
    = s.pins ∧ (secondStep c s).pending = s.pending := by
  unfold secondStep; dsimp only; (repeat' split) <;> simp

/-- `expiryStep` changes at most programs, handovers. -/
@[simp] theorem expiryStep_frame (c : Channel) (s : State) :
    (expiryStep c s).base = s.base ∧ (expiryStep c s).elements = s.elements ∧ (expiryStep c s).gas = s.gas ∧
    (expiryStep c s).plan = s.plan ∧ (expiryStep c s).arbiter = s.arbiter ∧ (expiryStep c s).peers = s.peers ∧
    (expiryStep c s).receiver = s.receiver ∧ (expiryStep c s).dispatcher = s.dispatcher ∧ (expiryStep c s).tx = s.tx ∧
    (expiryStep c s).counters = s.counters ∧ (expiryStep c s).loader = s.loader ∧ (expiryStep c s).pins = s.pins ∧
    (expiryStep c s).event = s.event ∧ (expiryStep c s).pending = s.pending := by
  unfold expiryStep; (repeat' split) <;> simp

/-- `lockoutReport` changes at most programs, handovers. -/
@[simp] theorem lockoutReport_frame (c : Channel) (f : FaultCode) (s : State) :
    (lockoutReport c f s).base = s.base ∧ (lockoutReport c f s).elements = s.elements ∧ (lockoutReport c f s).gas =
    s.gas ∧ (lockoutReport c f s).plan = s.plan ∧ (lockoutReport c f s).arbiter = s.arbiter ∧ (lockoutReport c f
    s).peers = s.peers ∧ (lockoutReport c f s).receiver = s.receiver ∧ (lockoutReport c f s).dispatcher = s.dispatcher
    ∧ (lockoutReport c f s).tx = s.tx ∧ (lockoutReport c f s).counters = s.counters ∧ (lockoutReport c f s).loader =
    s.loader ∧ (lockoutReport c f s).pins = s.pins ∧ (lockoutReport c f s).event = s.event ∧ (lockoutReport c f
    s).pending = s.pending := by
  simp [lockoutReport]

end Sys2Proof.Machine
end

