-- ==== Sys2Proof/Laws/Gas.lean ====
section
/-!
SUPPORT. Laws/Gas.lean: what the operations of the Spark Arbiter and the Gas Sequencers change.
-/

namespace Sys2Proof.Machine

/-- Setting the valve step changes the step and the code latched on the step lines alone. -/
@[simp] theorem setStep_frame (n : Nat) (g : GasSequencer) :
    (setStep n g).heat = g.heat ∧ (setStep n g).level = g.level ∧ (setStep n g).attempts = g.attempts ∧
    (setStep n g).flame = g.flame ∧ (setStep n g).run = g.run ∧ (setStep n g).countdown = g.countdown ∧
    (setStep n g).spark = g.spark ∧ (setStep n g).stray = g.stray ∧ (setStep n g).valve = g.valve ∧
    (setStep n g).step = n ∧ (setStep n g).latched = n := by
  simp [setStep]

/-- `setQueue` changes at most arbiter. -/
@[simp] theorem setQueue_frame (q : List Key) (s : State) :
    (setQueue q s).base = s.base ∧ (setQueue q s).programs = s.programs ∧ (setQueue q s).handovers = s.handovers ∧
    (setQueue q s).elements = s.elements ∧ (setQueue q s).gas = s.gas ∧ (setQueue q s).plan = s.plan ∧ (setQueue q
    s).peers = s.peers ∧ (setQueue q s).receiver = s.receiver ∧ (setQueue q s).dispatcher = s.dispatcher ∧ (setQueue q
    s).tx = s.tx ∧ (setQueue q s).counters = s.counters ∧ (setQueue q s).loader = s.loader ∧ (setQueue q s).pins =
    s.pins ∧ (setQueue q s).event = s.event ∧ (setQueue q s).pending = s.pending := by
  simp [setQueue]

@[simp] theorem setQueue_queue (q : List Key) (s : State) : (setQueue q s).arbiter.queue = q := rfl

/-- `appendKey` changes at most arbiter. -/
@[simp] theorem appendKey_frame (k : Key) (s : State) :
    (appendKey k s).base = s.base ∧ (appendKey k s).programs = s.programs ∧ (appendKey k s).handovers = s.handovers ∧
    (appendKey k s).elements = s.elements ∧ (appendKey k s).gas = s.gas ∧ (appendKey k s).plan = s.plan ∧ (appendKey k
    s).peers = s.peers ∧ (appendKey k s).receiver = s.receiver ∧ (appendKey k s).dispatcher = s.dispatcher ∧
    (appendKey k s).tx = s.tx ∧ (appendKey k s).counters = s.counters ∧ (appendKey k s).loader = s.loader ∧ (appendKey
    k s).pins = s.pins ∧ (appendKey k s).event = s.event ∧ (appendKey k s).pending = s.pending := by
  unfold appendKey; (repeat' split) <;> simp

/-- `clearOutstanding` changes at most arbiter. -/
@[simp] theorem clearOutstanding_frame (c : Channel) (s : State) :
    (clearOutstanding c s).base = s.base ∧ (clearOutstanding c s).programs = s.programs ∧ (clearOutstanding c
    s).handovers = s.handovers ∧ (clearOutstanding c s).elements = s.elements ∧ (clearOutstanding c s).gas = s.gas ∧
    (clearOutstanding c s).plan = s.plan ∧ (clearOutstanding c s).peers = s.peers ∧ (clearOutstanding c s).receiver =
    s.receiver ∧ (clearOutstanding c s).dispatcher = s.dispatcher ∧ (clearOutstanding c s).tx = s.tx ∧
    (clearOutstanding c s).counters = s.counters ∧ (clearOutstanding c s).loader = s.loader ∧ (clearOutstanding c
    s).pins = s.pins ∧ (clearOutstanding c s).event = s.event ∧ (clearOutstanding c s).pending = s.pending := by
  simp [clearOutstanding]

/-- `removeKey` changes at most arbiter. -/
@[simp] theorem removeKey_frame (k : Key) (s : State) :
    (removeKey k s).base = s.base ∧ (removeKey k s).programs = s.programs ∧ (removeKey k s).handovers = s.handovers ∧
    (removeKey k s).elements = s.elements ∧ (removeKey k s).gas = s.gas ∧ (removeKey k s).plan = s.plan ∧ (removeKey k
    s).peers = s.peers ∧ (removeKey k s).receiver = s.receiver ∧ (removeKey k s).dispatcher = s.dispatcher ∧
    (removeKey k s).tx = s.tx ∧ (removeKey k s).counters = s.counters ∧ (removeKey k s).loader = s.loader ∧ (removeKey
    k s).pins = s.pins ∧ (removeKey k s).event = s.event ∧ (removeKey k s).pending = s.pending := by
  unfold removeKey; dsimp only; (repeat' split) <;> simp

/-- `removeStationKeys` changes at most arbiter. -/
@[simp] theorem removeStationKeys_frame (a : Fin 8) (s : State) :
    (removeStationKeys a s).base = s.base ∧ (removeStationKeys a s).programs = s.programs ∧ (removeStationKeys a
    s).handovers = s.handovers ∧ (removeStationKeys a s).elements = s.elements ∧ (removeStationKeys a s).gas = s.gas ∧
    (removeStationKeys a s).plan = s.plan ∧ (removeStationKeys a s).peers = s.peers ∧ (removeStationKeys a s).receiver
    = s.receiver ∧ (removeStationKeys a s).dispatcher = s.dispatcher ∧ (removeStationKeys a s).tx = s.tx ∧
    (removeStationKeys a s).counters = s.counters ∧ (removeStationKeys a s).loader = s.loader ∧ (removeStationKeys a
    s).pins = s.pins ∧ (removeStationKeys a s).event = s.event ∧ (removeStationKeys a s).pending = s.pending := by
  simp [removeStationKeys]

/-- `freeIfQueued` changes at most tx, arbiter. -/
@[simp] theorem freeIfQueued_frame (c : Channel) (s : State) :
    (freeIfQueued c s).base = s.base ∧ (freeIfQueued c s).programs = s.programs ∧ (freeIfQueued c s).handovers =
    s.handovers ∧ (freeIfQueued c s).elements = s.elements ∧ (freeIfQueued c s).gas = s.gas ∧ (freeIfQueued c s).plan
    = s.plan ∧ (freeIfQueued c s).peers = s.peers ∧ (freeIfQueued c s).receiver = s.receiver ∧ (freeIfQueued c
    s).dispatcher = s.dispatcher ∧ (freeIfQueued c s).counters = s.counters ∧ (freeIfQueued c s).loader = s.loader ∧
    (freeIfQueued c s).pins = s.pins ∧ (freeIfQueued c s).event = s.event ∧ (freeIfQueued c s).pending = s.pending := by
  unfold freeIfQueued; (repeat' split) <;> simp

/-- `standingFree` changes at most tx, arbiter. -/
@[simp] theorem standingFree_frame (c : Channel) (s : State) :
    (standingFree c s).base = s.base ∧ (standingFree c s).programs = s.programs ∧ (standingFree c s).handovers =
    s.handovers ∧ (standingFree c s).elements = s.elements ∧ (standingFree c s).gas = s.gas ∧ (standingFree c s).plan
    = s.plan ∧ (standingFree c s).peers = s.peers ∧ (standingFree c s).receiver = s.receiver ∧ (standingFree c
    s).dispatcher = s.dispatcher ∧ (standingFree c s).counters = s.counters ∧ (standingFree c s).loader = s.loader ∧
    (standingFree c s).pins = s.pins ∧ (standingFree c s).event = s.event ∧ (standingFree c s).pending = s.pending := by
  unfold standingFree; (repeat' split) <;> simp

@[simp] theorem freeIfQueued_queue (c : Channel) (s : State) :
    (freeIfQueued c s).arbiter.queue = s.arbiter.queue ∧ (freeIfQueued c s).arbiter.dwell = s.arbiter.dwell := by
  unfold freeIfQueued; split <;> simp

@[simp] theorem standingFree_queue (c : Channel) (s : State) :
    (standingFree c s).arbiter.queue = s.arbiter.queue ∧ (standingFree c s).arbiter.dwell = s.arbiter.dwell := by
  unfold standingFree; split <;> simp

/-- What a removal leaves of the queue (R97). -/
@[simp] theorem removeKey_queue (k : Key) (s : State) :
    (removeKey k s).arbiter.queue = s.arbiter.queue.filter fun x => x ≠ k := by
  unfold removeKey
  dsimp only
  split
  · split <;> simp [clearOutstanding]
  · rename_i h
    refine (List.filter_eq_self.mpr ?_).symm
    intro a ha
    simpa using fun e : a = k => h (e ▸ ha)

/-- What an addition leaves of the queue (R97). -/
@[simp] theorem appendKey_queue (k : Key) (s : State) :
    (appendKey k s).arbiter.queue = if k ∈ s.arbiter.queue then s.arbiter.queue else s.arbiter.queue ++ [k] := by
  unfold appendKey
  split <;> simp

/-- `strayTest` changes at most gas. -/
@[simp] theorem strayTest_frame (c : Channel) (s : State) :
    (strayTest c s).base = s.base ∧ (strayTest c s).programs = s.programs ∧ (strayTest c s).handovers = s.handovers ∧
    (strayTest c s).elements = s.elements ∧ (strayTest c s).plan = s.plan ∧ (strayTest c s).arbiter = s.arbiter ∧
    (strayTest c s).peers = s.peers ∧ (strayTest c s).receiver = s.receiver ∧ (strayTest c s).dispatcher =
    s.dispatcher ∧ (strayTest c s).tx = s.tx ∧ (strayTest c s).counters = s.counters ∧ (strayTest c s).loader =
    s.loader ∧ (strayTest c s).pins = s.pins ∧ (strayTest c s).event = s.event ∧ (strayTest c s).pending = s.pending := by
  unfold strayTest; (repeat' split) <;> simp

/-- `enterWaitSpark` changes at most gas, tx. -/
@[simp] theorem enterWaitSpark_frame (c : Channel) (s : State) :
    (enterWaitSpark c s).base = s.base ∧ (enterWaitSpark c s).programs = s.programs ∧ (enterWaitSpark c s).handovers =
    s.handovers ∧ (enterWaitSpark c s).elements = s.elements ∧ (enterWaitSpark c s).plan = s.plan ∧ (enterWaitSpark c
    s).arbiter = s.arbiter ∧ (enterWaitSpark c s).peers = s.peers ∧ (enterWaitSpark c s).receiver = s.receiver ∧
    (enterWaitSpark c s).dispatcher = s.dispatcher ∧ (enterWaitSpark c s).counters = s.counters ∧ (enterWaitSpark c
    s).loader = s.loader ∧ (enterWaitSpark c s).pins = s.pins ∧ (enterWaitSpark c s).event = s.event ∧ (enterWaitSpark
    c s).pending = s.pending := by
  simp [enterWaitSpark]

/-- `enterLockout` changes at most gas, tx, arbiter, programs, handovers. -/
@[simp] theorem enterLockout_frame (c : Channel) (f : FaultCode) (s : State) :
    (enterLockout c f s).base = s.base ∧ (enterLockout c f s).elements = s.elements ∧ (enterLockout c f s).plan =
    s.plan ∧ (enterLockout c f s).peers = s.peers ∧ (enterLockout c f s).receiver = s.receiver ∧ (enterLockout c f
    s).dispatcher = s.dispatcher ∧ (enterLockout c f s).counters = s.counters ∧ (enterLockout c f s).loader = s.loader
    ∧ (enterLockout c f s).pins = s.pins ∧ (enterLockout c f s).event = s.event ∧ (enterLockout c f s).pending =
    s.pending := by
  simp [enterLockout]

@[simp] theorem enterLockout_queue (c : Channel) (f : FaultCode) (s : State) :
    (enterLockout c f s).arbiter.queue = s.arbiter.queue ∧ (enterLockout c f s).arbiter.dwell = s.arbiter.dwell := by
  simp [enterLockout]

/-- `failAttempt` changes at most gas, tx, arbiter, programs, handovers, counters. -/
@[simp] theorem failAttempt_frame (c : Channel) (s : State) :
    (failAttempt c s).base = s.base ∧ (failAttempt c s).elements = s.elements ∧ (failAttempt c s).plan = s.plan ∧
    (failAttempt c s).peers = s.peers ∧ (failAttempt c s).receiver = s.receiver ∧ (failAttempt c s).dispatcher =
    s.dispatcher ∧ (failAttempt c s).loader = s.loader ∧ (failAttempt c s).pins = s.pins ∧ (failAttempt c s).event =
    s.event ∧ (failAttempt c s).pending = s.pending := by
  unfold failAttempt; dsimp only; (repeat' split) <;> simp

@[simp] theorem failAttempt_queue (c : Channel) (s : State) :
    (failAttempt c s).arbiter.queue = s.arbiter.queue ∧ (failAttempt c s).arbiter.dwell = s.arbiter.dwell := by
  unfold failAttempt
  dsimp only
  split <;> simp

/-- `keyLost` changes at most gas, tx, arbiter, programs, handovers, counters. -/
@[simp] theorem keyLost_frame (c : Channel) (s : State) :
    (keyLost c s).base = s.base ∧ (keyLost c s).elements = s.elements ∧ (keyLost c s).plan = s.plan ∧ (keyLost c
    s).peers = s.peers ∧ (keyLost c s).receiver = s.receiver ∧ (keyLost c s).dispatcher = s.dispatcher ∧ (keyLost c
    s).loader = s.loader ∧ (keyLost c s).pins = s.pins ∧ (keyLost c s).event = s.event ∧ (keyLost c s).pending =
    s.pending := by
  unfold keyLost; (repeat' split) <;> simp

@[simp] theorem keyLost_queue (c : Channel) (s : State) :
    (keyLost c s).arbiter.queue = s.arbiter.queue ∧ (keyLost c s).arbiter.dwell = s.arbiter.dwell := by
  unfold keyLost
  (repeat' split) <;> simp

/-- `dropKey` changes at most gas, tx, arbiter, programs, handovers, counters. -/
@[simp] theorem dropKey_frame (k : Key) (s : State) :
    (dropKey k s).base = s.base ∧ (dropKey k s).elements = s.elements ∧ (dropKey k s).plan = s.plan ∧ (dropKey k
    s).peers = s.peers ∧ (dropKey k s).receiver = s.receiver ∧ (dropKey k s).dispatcher = s.dispatcher ∧ (dropKey k
    s).loader = s.loader ∧ (dropKey k s).pins = s.pins ∧ (dropKey k s).event = s.event ∧ (dropKey k s).pending =
    s.pending := by
  unfold dropKey; (repeat' split) <;> simp

@[simp] theorem dropKey_queue (k : Key) (s : State) :
    (dropKey k s).arbiter.queue = s.arbiter.queue.filter fun x => x ≠ k := by
  unfold dropKey
  split <;> simp

/-- `endWanting` changes at most gas, tx, arbiter. -/
@[simp] theorem endWanting_frame (c : Channel) (s : State) :
    (endWanting c s).base = s.base ∧ (endWanting c s).programs = s.programs ∧ (endWanting c s).handovers = s.handovers
    ∧ (endWanting c s).elements = s.elements ∧ (endWanting c s).plan = s.plan ∧ (endWanting c s).peers = s.peers ∧
    (endWanting c s).receiver = s.receiver ∧ (endWanting c s).dispatcher = s.dispatcher ∧ (endWanting c s).counters =
    s.counters ∧ (endWanting c s).loader = s.loader ∧ (endWanting c s).pins = s.pins ∧ (endWanting c s).event =
    s.event ∧ (endWanting c s).pending = s.pending := by
  simp [endWanting]

/-- `takeGasLevel` changes at most gas, tx, arbiter. -/
@[simp] theorem takeGasLevel_frame (c : Channel) (l : Nat) (s : State) :
    (takeGasLevel c l s).base = s.base ∧ (takeGasLevel c l s).programs = s.programs ∧ (takeGasLevel c l s).handovers =
    s.handovers ∧ (takeGasLevel c l s).elements = s.elements ∧ (takeGasLevel c l s).plan = s.plan ∧ (takeGasLevel c l
    s).peers = s.peers ∧ (takeGasLevel c l s).receiver = s.receiver ∧ (takeGasLevel c l s).dispatcher = s.dispatcher ∧
    (takeGasLevel c l s).counters = s.counters ∧ (takeGasLevel c l s).loader = s.loader ∧ (takeGasLevel c l s).pins =
    s.pins ∧ (takeGasLevel c l s).event = s.event ∧ (takeGasLevel c l s).pending = s.pending := by
  unfold takeGasLevel; dsimp only; (repeat' split) <;> simp

/-- A hand-over at one burner leaves the others. -/
theorem takeGasLevel_gas_at (d c : Channel) (l : Nat) (s : State) (h : c ≠ d) : (takeGasLevel d l s).gas[c] = s.gas[c] := by
  have hd : d.val ≠ c.val := fun e => h (Fin.ext e.symm)
  unfold takeGasLevel endWanting enterWaitSpark strayTest
  dsimp only
  (repeat' split) <;> simp [hd]

/-- A hand-over leaves the spark queue. -/
@[simp] theorem takeGasLevel_queue (c : Channel) (l : Nat) (s : State) :
    (takeGasLevel c l s).arbiter.queue = s.arbiter.queue ∧ (takeGasLevel c l s).arbiter.dwell = s.arbiter.dwell := by
  unfold takeGasLevel endWanting
  dsimp only
  (repeat' split) <;> simp

/-- `clearLockout` changes at most gas, tx, arbiter. -/
@[simp] theorem clearLockout_frame (c : Channel) (s : State) :
    (clearLockout c s).base = s.base ∧ (clearLockout c s).programs = s.programs ∧ (clearLockout c s).handovers =
    s.handovers ∧ (clearLockout c s).elements = s.elements ∧ (clearLockout c s).plan = s.plan ∧ (clearLockout c
    s).peers = s.peers ∧ (clearLockout c s).receiver = s.receiver ∧ (clearLockout c s).dispatcher = s.dispatcher ∧
    (clearLockout c s).counters = s.counters ∧ (clearLockout c s).loader = s.loader ∧ (clearLockout c s).pins = s.pins
    ∧ (clearLockout c s).event = s.event ∧ (clearLockout c s).pending = s.pending := by
  unfold clearLockout; (repeat' split) <;> simp

/-- `stopChannel` changes at most gas, tx, arbiter, programs, handovers. -/
@[simp] theorem stopChannel_frame (c : Channel) (s : State) :
    (stopChannel c s).base = s.base ∧ (stopChannel c s).elements = s.elements ∧ (stopChannel c s).plan = s.plan ∧
    (stopChannel c s).peers = s.peers ∧ (stopChannel c s).receiver = s.receiver ∧ (stopChannel c s).dispatcher =
    s.dispatcher ∧ (stopChannel c s).counters = s.counters ∧ (stopChannel c s).loader = s.loader ∧ (stopChannel c
    s).pins = s.pins ∧ (stopChannel c s).event = s.event ∧ (stopChannel c s).pending = s.pending := by
  unfold stopChannel; (repeat' split) <;> simp

/-- `stopOn` changes at most gas, tx, arbiter, programs, handovers. -/
@[simp] theorem stopOn_frame (c : Channel) (s : State) :
    (stopOn c s).base = s.base ∧ (stopOn c s).elements = s.elements ∧ (stopOn c s).plan = s.plan ∧ (stopOn c s).peers
    = s.peers ∧ (stopOn c s).receiver = s.receiver ∧ (stopOn c s).dispatcher = s.dispatcher ∧ (stopOn c s).counters =
    s.counters ∧ (stopOn c s).loader = s.loader ∧ (stopOn c s).pins = s.pins ∧ (stopOn c s).event = s.event ∧ (stopOn
    c s).pending = s.pending := by
  unfold stopOn; (repeat' split) <;> simp

/-- `stopAll` changes at most gas, tx, arbiter, programs, handovers. -/
@[simp] theorem stopAll_frame (s : State) :
    (stopAll s).base = s.base ∧ (stopAll s).elements = s.elements ∧ (stopAll s).plan = s.plan ∧ (stopAll s).peers =
    s.peers ∧ (stopAll s).receiver = s.receiver ∧ (stopAll s).dispatcher = s.dispatcher ∧ (stopAll s).counters =
    s.counters ∧ (stopAll s).loader = s.loader ∧ (stopAll s).pins = s.pins ∧ (stopAll s).event = s.event ∧ (stopAll
    s).pending = s.pending := by
  have h : ∀ (u : State) (c : Channel), (fun t c => if State.used t c then stopChannel c t else t) u c = u ∨
      (fun t c => if State.used t c then stopChannel c t else t) u c = stopChannel c u := by
    intro u c; dsimp only; split <;> simp
  simp only [stopAll, allChannels, List.foldl_cons, List.foldl_nil]
  (repeat' split) <;> simp

/-- `flameAppears` changes at most gas, tx, arbiter. -/
@[simp] theorem flameAppears_frame (c : Channel) (s : State) :
    (flameAppears c s).base = s.base ∧ (flameAppears c s).programs = s.programs ∧ (flameAppears c s).handovers =
    s.handovers ∧ (flameAppears c s).elements = s.elements ∧ (flameAppears c s).plan = s.plan ∧ (flameAppears c
    s).peers = s.peers ∧ (flameAppears c s).receiver = s.receiver ∧ (flameAppears c s).dispatcher = s.dispatcher ∧
    (flameAppears c s).counters = s.counters ∧ (flameAppears c s).loader = s.loader ∧ (flameAppears c s).pins = s.pins
    ∧ (flameAppears c s).event = s.event ∧ (flameAppears c s).pending = s.pending := by
  unfold flameAppears; (repeat' split) <;> simp

/-- `flameVanishes` changes at most gas, tx, counters. -/
@[simp] theorem flameVanishes_frame (c : Channel) (s : State) :
    (flameVanishes c s).base = s.base ∧ (flameVanishes c s).programs = s.programs ∧ (flameVanishes c s).handovers =
    s.handovers ∧ (flameVanishes c s).elements = s.elements ∧ (flameVanishes c s).plan = s.plan ∧ (flameVanishes c
    s).arbiter = s.arbiter ∧ (flameVanishes c s).peers = s.peers ∧ (flameVanishes c s).receiver = s.receiver ∧
    (flameVanishes c s).dispatcher = s.dispatcher ∧ (flameVanishes c s).loader = s.loader ∧ (flameVanishes c s).pins =
    s.pins ∧ (flameVanishes c s).event = s.event ∧ (flameVanishes c s).pending = s.pending := by
  unfold flameVanishes; (repeat' split) <;> simp

/-- `countDown` changes at most gas, event. -/
@[simp] theorem countDown_frame (c : Channel) (s : State) :
    (countDown c s).base = s.base ∧ (countDown c s).programs = s.programs ∧ (countDown c s).handovers = s.handovers ∧
    (countDown c s).elements = s.elements ∧ (countDown c s).plan = s.plan ∧ (countDown c s).arbiter = s.arbiter ∧
    (countDown c s).peers = s.peers ∧ (countDown c s).receiver = s.receiver ∧ (countDown c s).dispatcher =
    s.dispatcher ∧ (countDown c s).tx = s.tx ∧ (countDown c s).counters = s.counters ∧ (countDown c s).loader =
    s.loader ∧ (countDown c s).pins = s.pins ∧ (countDown c s).pending = s.pending := by
  unfold countDown; dsimp only; (repeat' split) <;> simp

/-- `setProvenStep` changes at most gas. -/
@[simp] theorem setProvenStep_frame (c : Channel) (s : State) :
    (setProvenStep c s).base = s.base ∧ (setProvenStep c s).programs = s.programs ∧ (setProvenStep c s).handovers =
    s.handovers ∧ (setProvenStep c s).elements = s.elements ∧ (setProvenStep c s).plan = s.plan ∧ (setProvenStep c
    s).arbiter = s.arbiter ∧ (setProvenStep c s).peers = s.peers ∧ (setProvenStep c s).receiver = s.receiver ∧
    (setProvenStep c s).dispatcher = s.dispatcher ∧ (setProvenStep c s).tx = s.tx ∧ (setProvenStep c s).counters =
    s.counters ∧ (setProvenStep c s).loader = s.loader ∧ (setProvenStep c s).pins = s.pins ∧ (setProvenStep c s).event
    = s.event ∧ (setProvenStep c s).pending = s.pending := by
  unfold setProvenStep; (repeat' split) <;> simp

/-- `sequencerRest` changes at most gas, event. -/
@[simp] theorem sequencerRest_frame (c : Channel) (b : Bool) (s : State) :
    (sequencerRest c b s).base = s.base ∧ (sequencerRest c b s).programs = s.programs ∧ (sequencerRest c b
    s).handovers = s.handovers ∧ (sequencerRest c b s).elements = s.elements ∧ (sequencerRest c b s).plan = s.plan ∧
    (sequencerRest c b s).arbiter = s.arbiter ∧ (sequencerRest c b s).peers = s.peers ∧ (sequencerRest c b s).receiver
    = s.receiver ∧ (sequencerRest c b s).dispatcher = s.dispatcher ∧ (sequencerRest c b s).tx = s.tx ∧ (sequencerRest
    c b s).counters = s.counters ∧ (sequencerRest c b s).loader = s.loader ∧ (sequencerRest c b s).pins = s.pins ∧
    (sequencerRest c b s).pending = s.pending := by
  unfold sequencerRest; split <;> simp

/-- `takeFlame` changes at most gas, event. -/
@[simp] theorem takeFlame_frame (c : Channel) (s : State) :
    (takeFlame c s).base = s.base ∧ (takeFlame c s).programs = s.programs ∧ (takeFlame c s).handovers = s.handovers ∧
    (takeFlame c s).elements = s.elements ∧ (takeFlame c s).plan = s.plan ∧ (takeFlame c s).arbiter = s.arbiter ∧
    (takeFlame c s).peers = s.peers ∧ (takeFlame c s).receiver = s.receiver ∧ (takeFlame c s).dispatcher =
    s.dispatcher ∧ (takeFlame c s).tx = s.tx ∧ (takeFlame c s).counters = s.counters ∧ (takeFlame c s).loader =
    s.loader ∧ (takeFlame c s).pins = s.pins ∧ (takeFlame c s).pending = s.pending := by
  unfold takeFlame; dsimp only; (repeat' split) <;> simp

/-- `flamePresentStep` changes at most gas, event, tx, arbiter. -/
@[simp] theorem flamePresentStep_frame (c : Channel) (s : State) :
    (flamePresentStep c s).base = s.base ∧ (flamePresentStep c s).programs = s.programs ∧ (flamePresentStep c
    s).handovers = s.handovers ∧ (flamePresentStep c s).elements = s.elements ∧ (flamePresentStep c s).plan = s.plan ∧
    (flamePresentStep c s).peers = s.peers ∧ (flamePresentStep c s).receiver = s.receiver ∧ (flamePresentStep c
    s).dispatcher = s.dispatcher ∧ (flamePresentStep c s).counters = s.counters ∧ (flamePresentStep c s).loader =
    s.loader ∧ (flamePresentStep c s).pins = s.pins ∧ (flamePresentStep c s).pending = s.pending := by
  simp [flamePresentStep]

/-- `flameAbsentStep` changes at most gas, event, tx, counters. -/
@[simp] theorem flameAbsentStep_frame (c : Channel) (s : State) :
    (flameAbsentStep c s).base = s.base ∧ (flameAbsentStep c s).programs = s.programs ∧ (flameAbsentStep c
    s).handovers = s.handovers ∧ (flameAbsentStep c s).elements = s.elements ∧ (flameAbsentStep c s).plan = s.plan ∧
    (flameAbsentStep c s).arbiter = s.arbiter ∧ (flameAbsentStep c s).peers = s.peers ∧ (flameAbsentStep c s).receiver
    = s.receiver ∧ (flameAbsentStep c s).dispatcher = s.dispatcher ∧ (flameAbsentStep c s).loader = s.loader ∧
    (flameAbsentStep c s).pins = s.pins ∧ (flameAbsentStep c s).pending = s.pending := by
  simp [flameAbsentStep]

/-- `ignitionEndStep` changes at most gas, tx, arbiter, programs, handovers, counters. -/
@[simp] theorem ignitionEndStep_frame (c : Channel) (s : State) :
    (ignitionEndStep c s).base = s.base ∧ (ignitionEndStep c s).elements = s.elements ∧ (ignitionEndStep c s).plan =
    s.plan ∧ (ignitionEndStep c s).peers = s.peers ∧ (ignitionEndStep c s).receiver = s.receiver ∧ (ignitionEndStep c
    s).dispatcher = s.dispatcher ∧ (ignitionEndStep c s).loader = s.loader ∧ (ignitionEndStep c s).pins = s.pins ∧
    (ignitionEndStep c s).event = s.event ∧ (ignitionEndStep c s).pending = s.pending := by
  unfold ignitionEndStep; (repeat' split) <;> simp

/-- `purgeEndStep` changes at most gas, tx. -/
@[simp] theorem purgeEndStep_frame (c : Channel) (s : State) :
    (purgeEndStep c s).base = s.base ∧ (purgeEndStep c s).programs = s.programs ∧ (purgeEndStep c s).handovers =
    s.handovers ∧ (purgeEndStep c s).elements = s.elements ∧ (purgeEndStep c s).plan = s.plan ∧ (purgeEndStep c
    s).arbiter = s.arbiter ∧ (purgeEndStep c s).peers = s.peers ∧ (purgeEndStep c s).receiver = s.receiver ∧
    (purgeEndStep c s).dispatcher = s.dispatcher ∧ (purgeEndStep c s).counters = s.counters ∧ (purgeEndStep c
    s).loader = s.loader ∧ (purgeEndStep c s).pins = s.pins ∧ (purgeEndStep c s).event = s.event ∧ (purgeEndStep c
    s).pending = s.pending := by
  unfold purgeEndStep; (repeat' split) <;> simp

/-- `relightEndStep` changes at most gas, tx, arbiter, programs, handovers. -/
@[simp] theorem relightEndStep_frame (c : Channel) (s : State) :
    (relightEndStep c s).base = s.base ∧ (relightEndStep c s).elements = s.elements ∧ (relightEndStep c s).plan =
    s.plan ∧ (relightEndStep c s).peers = s.peers ∧ (relightEndStep c s).receiver = s.receiver ∧ (relightEndStep c
    s).dispatcher = s.dispatcher ∧ (relightEndStep c s).counters = s.counters ∧ (relightEndStep c s).loader = s.loader
    ∧ (relightEndStep c s).pins = s.pins ∧ (relightEndStep c s).event = s.event ∧ (relightEndStep c s).pending =
    s.pending := by
  unfold relightEndStep; (repeat' split) <;> simp

/-- `takeDwell` changes at most arbiter, event. -/
@[simp] theorem takeDwell_frame (s : State) :
    (takeDwell s).base = s.base ∧ (takeDwell s).programs = s.programs ∧ (takeDwell s).handovers = s.handovers ∧
    (takeDwell s).elements = s.elements ∧ (takeDwell s).gas = s.gas ∧ (takeDwell s).plan = s.plan ∧ (takeDwell
    s).peers = s.peers ∧ (takeDwell s).receiver = s.receiver ∧ (takeDwell s).dispatcher = s.dispatcher ∧ (takeDwell
    s).tx = s.tx ∧ (takeDwell s).counters = s.counters ∧ (takeDwell s).loader = s.loader ∧ (takeDwell s).pins = s.pins
    ∧ (takeDwell s).pending = s.pending := by
  unfold takeDwell; dsimp only; (repeat' split) <;> simp

/-- `holdLimitStep` changes at most gas, tx, arbiter, programs, handovers, counters. -/
@[simp] theorem holdLimitStep_frame (s : State) :
    (holdLimitStep s).base = s.base ∧ (holdLimitStep s).elements = s.elements ∧ (holdLimitStep s).plan = s.plan ∧
    (holdLimitStep s).peers = s.peers ∧ (holdLimitStep s).receiver = s.receiver ∧ (holdLimitStep s).dispatcher =
    s.dispatcher ∧ (holdLimitStep s).loader = s.loader ∧ (holdLimitStep s).pins = s.pins ∧ (holdLimitStep s).event =
    s.event ∧ (holdLimitStep s).pending = s.pending := by
  unfold holdLimitStep; (repeat' split) <;> simp

/-- `startSpark` changes at most gas. -/
@[simp] theorem startSpark_frame (c : Channel) (s : State) :
    (startSpark c s).base = s.base ∧ (startSpark c s).programs = s.programs ∧ (startSpark c s).handovers = s.handovers
    ∧ (startSpark c s).elements = s.elements ∧ (startSpark c s).plan = s.plan ∧ (startSpark c s).arbiter = s.arbiter ∧
    (startSpark c s).peers = s.peers ∧ (startSpark c s).receiver = s.receiver ∧ (startSpark c s).dispatcher =
    s.dispatcher ∧ (startSpark c s).tx = s.tx ∧ (startSpark c s).counters = s.counters ∧ (startSpark c s).loader =
    s.loader ∧ (startSpark c s).pins = s.pins ∧ (startSpark c s).event = s.event ∧ (startSpark c s).pending =
    s.pending := by
  unfold startSpark; dsimp only; split <;> simp

/-- `giveWay` changes at most tx, arbiter. -/
@[simp] theorem giveWay_frame (c : Channel) (s : State) :
    (giveWay c s).base = s.base ∧ (giveWay c s).programs = s.programs ∧ (giveWay c s).handovers = s.handovers ∧
    (giveWay c s).elements = s.elements ∧ (giveWay c s).gas = s.gas ∧ (giveWay c s).plan = s.plan ∧ (giveWay c
    s).peers = s.peers ∧ (giveWay c s).receiver = s.receiver ∧ (giveWay c s).dispatcher = s.dispatcher ∧ (giveWay c
    s).counters = s.counters ∧ (giveWay c s).loader = s.loader ∧ (giveWay c s).pins = s.pins ∧ (giveWay c s).event =
    s.event ∧ (giveWay c s).pending = s.pending := by
  simp [giveWay]

/-- `considerStart` changes at most gas, tx, arbiter, counters. -/
@[simp] theorem considerStart_frame (c : Channel) (b : Bool) (s : State) :
    (considerStart c b s).base = s.base ∧ (considerStart c b s).programs = s.programs ∧ (considerStart c b
    s).handovers = s.handovers ∧ (considerStart c b s).elements = s.elements ∧ (considerStart c b s).plan = s.plan ∧
    (considerStart c b s).peers = s.peers ∧ (considerStart c b s).receiver = s.receiver ∧ (considerStart c b
    s).dispatcher = s.dispatcher ∧ (considerStart c b s).loader = s.loader ∧ (considerStart c b s).pins = s.pins ∧
    (considerStart c b s).event = s.event ∧ (considerStart c b s).pending = s.pending := by
  unfold considerStart; (repeat' split) <;> simp

/-- `sparkPoint` changes at most gas, tx, arbiter, counters. -/
@[simp] theorem sparkPoint_frame (b : Bool) (s : State) :
    (sparkPoint b s).base = s.base ∧ (sparkPoint b s).programs = s.programs ∧ (sparkPoint b s).handovers = s.handovers
    ∧ (sparkPoint b s).elements = s.elements ∧ (sparkPoint b s).plan = s.plan ∧ (sparkPoint b s).peers = s.peers ∧
    (sparkPoint b s).receiver = s.receiver ∧ (sparkPoint b s).dispatcher = s.dispatcher ∧ (sparkPoint b s).loader =
    s.loader ∧ (sparkPoint b s).pins = s.pins ∧ (sparkPoint b s).event = s.event ∧ (sparkPoint b s).pending =
    s.pending := by
  unfold sparkPoint; (repeat' split) <;> simp

end Sys2Proof.Machine
end

