-- ==== Sys2Proof/Laws/Plan.lean ====
section
/-!
SUPPORT. Laws/Plan.lean: what the operations of the Load Plan and the Element Drivers change.
-/

namespace Sys2Proof.Machine

/-- `setTable` changes at most plan. -/
@[simp] theorem setTable_frame (l : List ClaimEntry) (s : State) :
    (setTable l s).base = s.base ∧ (setTable l s).programs = s.programs ∧ (setTable l s).handovers = s.handovers ∧
    (setTable l s).elements = s.elements ∧ (setTable l s).gas = s.gas ∧ (setTable l s).arbiter = s.arbiter ∧ (setTable
    l s).peers = s.peers ∧ (setTable l s).receiver = s.receiver ∧ (setTable l s).dispatcher = s.dispatcher ∧ (setTable
    l s).tx = s.tx ∧ (setTable l s).counters = s.counters ∧ (setTable l s).loader = s.loader ∧ (setTable l s).pins =
    s.pins ∧ (setTable l s).event = s.event ∧ (setTable l s).pending = s.pending := by
  simp [setTable]

/-- `recomputeBudget` changes at most plan. -/
@[simp] theorem recomputeBudget_frame (s : State) :
    (recomputeBudget s).base = s.base ∧ (recomputeBudget s).programs = s.programs ∧ (recomputeBudget s).handovers =
    s.handovers ∧ (recomputeBudget s).elements = s.elements ∧ (recomputeBudget s).gas = s.gas ∧ (recomputeBudget
    s).arbiter = s.arbiter ∧ (recomputeBudget s).peers = s.peers ∧ (recomputeBudget s).receiver = s.receiver ∧
    (recomputeBudget s).dispatcher = s.dispatcher ∧ (recomputeBudget s).tx = s.tx ∧ (recomputeBudget s).counters =
    s.counters ∧ (recomputeBudget s).loader = s.loader ∧ (recomputeBudget s).pins = s.pins ∧ (recomputeBudget s).event
    = s.event ∧ (recomputeBudget s).pending = s.pending := by
  simp [recomputeBudget]

/-- `startPlan` changes at most plan, dispatcher. -/
@[simp] theorem startPlan_frame (s : State) :
    (startPlan s).base = s.base ∧ (startPlan s).programs = s.programs ∧ (startPlan s).handovers = s.handovers ∧
    (startPlan s).elements = s.elements ∧ (startPlan s).gas = s.gas ∧ (startPlan s).arbiter = s.arbiter ∧ (startPlan
    s).peers = s.peers ∧ (startPlan s).receiver = s.receiver ∧ (startPlan s).tx = s.tx ∧ (startPlan s).counters =
    s.counters ∧ (startPlan s).loader = s.loader ∧ (startPlan s).pins = s.pins ∧ (startPlan s).event = s.event ∧
    (startPlan s).pending = s.pending := by
  simp [startPlan]

/-- `completePlan` changes at most plan, dispatcher. -/
@[simp] theorem completePlan_frame (s : State) :
    (completePlan s).base = s.base ∧ (completePlan s).programs = s.programs ∧ (completePlan s).handovers = s.handovers
    ∧ (completePlan s).elements = s.elements ∧ (completePlan s).gas = s.gas ∧ (completePlan s).arbiter = s.arbiter ∧
    (completePlan s).peers = s.peers ∧ (completePlan s).receiver = s.receiver ∧ (completePlan s).tx = s.tx ∧
    (completePlan s).counters = s.counters ∧ (completePlan s).loader = s.loader ∧ (completePlan s).pins = s.pins ∧
    (completePlan s).event = s.event ∧ (completePlan s).pending = s.pending := by
  unfold completePlan; (repeat' split) <;> simp

/-- `abandonPlan` changes at most plan. -/
@[simp] theorem abandonPlan_frame (s : State) :
    (abandonPlan s).base = s.base ∧ (abandonPlan s).programs = s.programs ∧ (abandonPlan s).handovers = s.handovers ∧
    (abandonPlan s).elements = s.elements ∧ (abandonPlan s).gas = s.gas ∧ (abandonPlan s).arbiter = s.arbiter ∧
    (abandonPlan s).peers = s.peers ∧ (abandonPlan s).receiver = s.receiver ∧ (abandonPlan s).dispatcher =
    s.dispatcher ∧ (abandonPlan s).tx = s.tx ∧ (abandonPlan s).counters = s.counters ∧ (abandonPlan s).loader =
    s.loader ∧ (abandonPlan s).pins = s.pins ∧ (abandonPlan s).event = s.event ∧ (abandonPlan s).pending = s.pending := by
  simp [abandonPlan]

/-- `takePlan` changes at most plan, dispatcher. -/
@[simp] theorem takePlan_frame (s : State) :
    (takePlan s).base = s.base ∧ (takePlan s).programs = s.programs ∧ (takePlan s).handovers = s.handovers ∧ (takePlan
    s).elements = s.elements ∧ (takePlan s).gas = s.gas ∧ (takePlan s).arbiter = s.arbiter ∧ (takePlan s).peers =
    s.peers ∧ (takePlan s).receiver = s.receiver ∧ (takePlan s).tx = s.tx ∧ (takePlan s).counters = s.counters ∧
    (takePlan s).loader = s.loader ∧ (takePlan s).pins = s.pins ∧ (takePlan s).event = s.event ∧ (takePlan s).pending
    = s.pending := by
  unfold takePlan; (repeat' split) <;> simp

/-- `countSheds` changes at most counters, and of those the sheds alone. -/
@[simp] theorem countSheds_frame (r : Vector (Option SwapResult) 4) (s : State) :
    (countSheds r s).base = s.base ∧ (countSheds r s).programs = s.programs ∧ (countSheds r s).handovers = s.handovers ∧
    (countSheds r s).elements = s.elements ∧ (countSheds r s).gas = s.gas ∧ (countSheds r s).plan = s.plan ∧
    (countSheds r s).arbiter = s.arbiter ∧ (countSheds r s).peers = s.peers ∧ (countSheds r s).receiver = s.receiver ∧
    (countSheds r s).dispatcher = s.dispatcher ∧ (countSheds r s).tx = s.tx ∧ (countSheds r s).loader = s.loader ∧
    (countSheds r s).pins = s.pins ∧ (countSheds r s).event = s.event ∧ (countSheds r s).pending = s.pending := by
  simp only [countSheds, allChannels, List.foldl]
  (repeat' split) <;> simp

@[simp] theorem countSheds_counters (r : Vector (Option SwapResult) 4) (s : State) :
    (countSheds r s).counters = { s.counters with sheds := (countSheds r s).counters.sheds } := by
  simp only [countSheds, allChannels, List.foldl, countShed]
  (repeat' split) <;> simp

/-- `takeSwap` changes at most plan, event, counters. -/
@[simp] theorem takeSwap_frame (s : State) :
    (takeSwap s).base = s.base ∧ (takeSwap s).programs = s.programs ∧ (takeSwap s).handovers = s.handovers ∧
    (takeSwap s).elements = s.elements ∧ (takeSwap s).gas = s.gas ∧ (takeSwap s).arbiter = s.arbiter ∧
    (takeSwap s).peers = s.peers ∧ (takeSwap s).receiver = s.receiver ∧ (takeSwap s).dispatcher = s.dispatcher ∧
    (takeSwap s).tx = s.tx ∧ (takeSwap s).loader = s.loader ∧ (takeSwap s).pins = s.pins ∧
    (takeSwap s).pending = s.pending := by
  unfold takeSwap; dsimp only; (repeat' split) <;> simp

/-- The swap counts nothing but sheds. -/
theorem takeSwap_counters (s : State) :
    (takeSwap s).counters = { s.counters with sheds := (takeSwap s).counters.sheds } := by
  unfold takeSwap
  dsimp only
  split
  · rfl
  · rw [countSheds_counters]; rfl

/-- `clearMaps` changes at most plan, elements. -/
@[simp] theorem clearMaps_frame (s : State) :
    (clearMaps s).base = s.base ∧ (clearMaps s).programs = s.programs ∧ (clearMaps s).handovers = s.handovers ∧
    (clearMaps s).gas = s.gas ∧ (clearMaps s).arbiter = s.arbiter ∧ (clearMaps s).peers = s.peers ∧ (clearMaps
    s).receiver = s.receiver ∧ (clearMaps s).dispatcher = s.dispatcher ∧ (clearMaps s).tx = s.tx ∧ (clearMaps
    s).counters = s.counters ∧ (clearMaps s).loader = s.loader ∧ (clearMaps s).pins = s.pins ∧ (clearMaps s).event =
    s.event ∧ (clearMaps s).pending = s.pending := by
  simp [clearMaps]

/-- No plan operation touches the receive FIFO itself. -/
@[simp] theorem startPlan_fifo (s : State) : (startPlan s).dispatcher.fifo = s.dispatcher.fifo := by simp [startPlan]

@[simp] theorem completePlan_fifo (s : State) : (completePlan s).dispatcher.fifo = s.dispatcher.fifo := by
  unfold completePlan; split <;> simp

@[simp] theorem takePlan_fifo (s : State) : (takePlan s).dispatcher.fifo = s.dispatcher.fifo := by
  unfold takePlan; split <;> simp

/-- `standingRelease` changes at most tx. -/
@[simp] theorem standingRelease_frame (c : Channel) (s : State) :
    (standingRelease c s).base = s.base ∧ (standingRelease c s).programs = s.programs ∧ (standingRelease c
    s).handovers = s.handovers ∧ (standingRelease c s).elements = s.elements ∧ (standingRelease c s).gas = s.gas ∧
    (standingRelease c s).plan = s.plan ∧ (standingRelease c s).arbiter = s.arbiter ∧ (standingRelease c s).peers =
    s.peers ∧ (standingRelease c s).receiver = s.receiver ∧ (standingRelease c s).dispatcher = s.dispatcher ∧
    (standingRelease c s).counters = s.counters ∧ (standingRelease c s).loader = s.loader ∧ (standingRelease c s).pins
    = s.pins ∧ (standingRelease c s).event = s.event ∧ (standingRelease c s).pending = s.pending := by
  unfold standingRelease; (repeat' split) <;> simp

/-- `leaveShare` changes at most elements, tx. -/
@[simp] theorem leaveShare_frame (c : Channel) (h : ElementHeat) (s : State) :
    (leaveShare c h s).base = s.base ∧ (leaveShare c h s).programs = s.programs ∧ (leaveShare c h s).handovers =
    s.handovers ∧ (leaveShare c h s).gas = s.gas ∧ (leaveShare c h s).plan = s.plan ∧ (leaveShare c h s).arbiter =
    s.arbiter ∧ (leaveShare c h s).peers = s.peers ∧ (leaveShare c h s).receiver = s.receiver ∧ (leaveShare c h
    s).dispatcher = s.dispatcher ∧ (leaveShare c h s).counters = s.counters ∧ (leaveShare c h s).loader = s.loader ∧
    (leaveShare c h s).pins = s.pins ∧ (leaveShare c h s).event = s.event ∧ (leaveShare c h s).pending = s.pending := by
  simp [leaveShare]

/-- `startWanting` changes at most elements, tx. -/
@[simp] theorem startWanting_frame (c : Channel) (s : State) :
    (startWanting c s).base = s.base ∧ (startWanting c s).programs = s.programs ∧ (startWanting c s).handovers =
    s.handovers ∧ (startWanting c s).gas = s.gas ∧ (startWanting c s).plan = s.plan ∧ (startWanting c s).arbiter =
    s.arbiter ∧ (startWanting c s).peers = s.peers ∧ (startWanting c s).receiver = s.receiver ∧ (startWanting c
    s).dispatcher = s.dispatcher ∧ (startWanting c s).counters = s.counters ∧ (startWanting c s).loader = s.loader ∧
    (startWanting c s).pins = s.pins ∧ (startWanting c s).event = s.event ∧ (startWanting c s).pending = s.pending := by
  unfold startWanting; (repeat' split) <;> simp

/-- `takeElementLevel` changes at most elements, tx. -/
@[simp] theorem takeElementLevel_frame (c : Channel) (l : Nat) (s : State) :
    (takeElementLevel c l s).base = s.base ∧ (takeElementLevel c l s).programs = s.programs ∧ (takeElementLevel c l
    s).handovers = s.handovers ∧ (takeElementLevel c l s).gas = s.gas ∧ (takeElementLevel c l s).plan = s.plan ∧
    (takeElementLevel c l s).arbiter = s.arbiter ∧ (takeElementLevel c l s).peers = s.peers ∧ (takeElementLevel c l
    s).receiver = s.receiver ∧ (takeElementLevel c l s).dispatcher = s.dispatcher ∧ (takeElementLevel c l s).counters
    = s.counters ∧ (takeElementLevel c l s).loader = s.loader ∧ (takeElementLevel c l s).pins = s.pins ∧
    (takeElementLevel c l s).event = s.event ∧ (takeElementLevel c l s).pending = s.pending := by
  unfold takeElementLevel; dsimp only; (repeat' split) <;> simp

/-- `applyResult` changes at most elements. -/
@[simp] theorem applyResult_frame (c : Channel) (r : SwapResult) (s : State) :
    (applyResult c r s).base = s.base ∧ (applyResult c r s).programs = s.programs ∧
    (applyResult c r s).handovers = s.handovers ∧ (applyResult c r s).gas = s.gas ∧ (applyResult c r s).plan = s.plan ∧
    (applyResult c r s).arbiter = s.arbiter ∧ (applyResult c r s).peers = s.peers ∧
    (applyResult c r s).receiver = s.receiver ∧ (applyResult c r s).dispatcher = s.dispatcher ∧
    (applyResult c r s).tx = s.tx ∧ (applyResult c r s).counters = s.counters ∧ (applyResult c r s).loader = s.loader ∧
    (applyResult c r s).pins = s.pins ∧ (applyResult c r s).event = s.event ∧
    (applyResult c r s).pending = s.pending := by
  unfold applyResult; (repeat' split) <;> simp

/-- `takeHanded` changes at most elements, event, and of the event the results alone. -/
@[simp] theorem takeHanded_frame (c : Channel) (s : State) :
    (takeHanded c s).base = s.base ∧ (takeHanded c s).programs = s.programs ∧ (takeHanded c s).handovers = s.handovers ∧
    (takeHanded c s).gas = s.gas ∧ (takeHanded c s).plan = s.plan ∧ (takeHanded c s).arbiter = s.arbiter ∧
    (takeHanded c s).peers = s.peers ∧ (takeHanded c s).receiver = s.receiver ∧
    (takeHanded c s).dispatcher = s.dispatcher ∧ (takeHanded c s).tx = s.tx ∧ (takeHanded c s).counters = s.counters ∧
    (takeHanded c s).loader = s.loader ∧ (takeHanded c s).pins = s.pins ∧ (takeHanded c s).pending = s.pending := by
  unfold takeHanded; split <;> simp

@[simp] theorem takeHanded_event (c : Channel) (s : State) :
    (takeHanded c s).event.due = s.event.due ∧ (takeHanded c s).event.untaken = s.event.untaken ∧
    (takeHanded c s).event.order = s.event.order ∧ (takeHanded c s).event.swapped = s.event.swapped ∧
    (takeHanded c s).event.startPoint = s.event.startPoint := by
  unfold takeHanded; split <;> simp

/-- With no result on its way the driver takes none. -/
theorem takeHanded_idle (c : Channel) (s : State) (h : s.event.results[c] = none) : takeHanded c s = s := by
  unfold takeHanded; rw [h]

/-- `sampleDemand` changes at most elements, tx. -/
@[simp] theorem sampleDemand_frame (c : Channel) (b : Bool) (s : State) :
    (sampleDemand c b s).base = s.base ∧ (sampleDemand c b s).programs = s.programs ∧
    (sampleDemand c b s).handovers = s.handovers ∧ (sampleDemand c b s).gas = s.gas ∧
    (sampleDemand c b s).plan = s.plan ∧ (sampleDemand c b s).arbiter = s.arbiter ∧
    (sampleDemand c b s).peers = s.peers ∧ (sampleDemand c b s).receiver = s.receiver ∧
    (sampleDemand c b s).dispatcher = s.dispatcher ∧ (sampleDemand c b s).counters = s.counters ∧
    (sampleDemand c b s).loader = s.loader ∧ (sampleDemand c b s).pins = s.pins ∧ (sampleDemand c b s).event = s.event ∧
    (sampleDemand c b s).pending = s.pending := by
  unfold sampleDemand; dsimp only; split <;> simp

/-- `takeSample` changes at most elements, tx, event. -/
@[simp] theorem takeSample_frame (c : Channel) (s : State) :
    (takeSample c s).base = s.base ∧ (takeSample c s).programs = s.programs ∧ (takeSample c s).handovers = s.handovers ∧
    (takeSample c s).gas = s.gas ∧ (takeSample c s).plan = s.plan ∧ (takeSample c s).arbiter = s.arbiter ∧
    (takeSample c s).peers = s.peers ∧ (takeSample c s).receiver = s.receiver ∧
    (takeSample c s).dispatcher = s.dispatcher ∧ (takeSample c s).counters = s.counters ∧
    (takeSample c s).loader = s.loader ∧ (takeSample c s).pins = s.pins ∧ (takeSample c s).pending = s.pending := by
  unfold takeSample; split <;> simp

/-- `takeResult` changes at most plan, event, elements, counters. -/
@[simp] theorem takeResult_frame (c : Channel) (s : State) :
    (takeResult c s).base = s.base ∧ (takeResult c s).programs = s.programs ∧ (takeResult c s).handovers = s.handovers ∧
    (takeResult c s).gas = s.gas ∧ (takeResult c s).arbiter = s.arbiter ∧ (takeResult c s).peers = s.peers ∧
    (takeResult c s).receiver = s.receiver ∧ (takeResult c s).dispatcher = s.dispatcher ∧ (takeResult c s).tx = s.tx ∧
    (takeResult c s).loader = s.loader ∧ (takeResult c s).pins = s.pins ∧ (takeResult c s).pending = s.pending := by
  simp [takeResult]

/-- The driver itself counts no shed. -/
@[simp] theorem takeResult_counters (c : Channel) (s : State) : (takeResult c s).counters = (takeSwap s).counters := by
  simp [takeResult]

/-- `takeRelay` changes at most plan, event, elements, counters. -/
@[simp] theorem takeRelay_frame (c : Channel) (s : State) :
    (takeRelay c s).base = s.base ∧ (takeRelay c s).programs = s.programs ∧ (takeRelay c s).handovers = s.handovers ∧
    (takeRelay c s).gas = s.gas ∧ (takeRelay c s).arbiter = s.arbiter ∧ (takeRelay c s).peers = s.peers ∧
    (takeRelay c s).receiver = s.receiver ∧ (takeRelay c s).dispatcher = s.dispatcher ∧ (takeRelay c s).tx = s.tx ∧
    (takeRelay c s).loader = s.loader ∧ (takeRelay c s).pins = s.pins ∧ (takeRelay c s).pending = s.pending := by
  unfold takeRelay; dsimp only; split <;> simp

@[simp] theorem takeRelay_counters (c : Channel) (s : State) : (takeRelay c s).counters = (takeSwap s).counters := by
  unfold takeRelay; dsimp only; split <;> simp

end Sys2Proof.Machine
end

