-- ==== Sys2Proof/Laws/Peers.lean ====
section
/-!
SUPPORT. Laws/Peers.lean: what the operations of the Peer Table and the node states change.
-/

namespace Sys2Proof.Machine

/-- `recomputeDerived` changes at most peers, plan. -/
@[simp] theorem recomputeDerived_frame (s : State) :
    (recomputeDerived s).base = s.base ∧ (recomputeDerived s).programs = s.programs ∧ (recomputeDerived s).handovers =
    s.handovers ∧ (recomputeDerived s).elements = s.elements ∧ (recomputeDerived s).gas = s.gas ∧ (recomputeDerived
    s).arbiter = s.arbiter ∧ (recomputeDerived s).receiver = s.receiver ∧ (recomputeDerived s).dispatcher =
    s.dispatcher ∧ (recomputeDerived s).tx = s.tx ∧ (recomputeDerived s).counters = s.counters ∧ (recomputeDerived
    s).loader = s.loader ∧ (recomputeDerived s).pins = s.pins ∧ (recomputeDerived s).event = s.event ∧
    (recomputeDerived s).pending = s.pending := by
  simp [recomputeDerived]

@[simp] theorem recomputeDerived_kept (s : State) :
    (recomputeDerived s).peers.records = s.peers.records ∧
    (recomputeDerived s).peers.presenceCount = s.peers.presenceCount ∧
    (recomputeDerived s).plan.table = s.plan.table ∧ (recomputeDerived s).plan.current = s.plan.current ∧
    (recomputeDerived s).plan.next = s.plan.next ∧ (recomputeDerived s).plan.computed = s.plan.computed ∧
    (recomputeDerived s).plan.planning = s.plan.planning := by
  simp [recomputeDerived, recomputeBudget]

/-- `setRecord` changes at most peers. -/
@[simp] theorem setRecord_frame (a : Station) (r : PeerRecord) (s : State) :
    (setRecord a r s).base = s.base ∧ (setRecord a r s).programs = s.programs ∧ (setRecord a r s).handovers =
    s.handovers ∧ (setRecord a r s).elements = s.elements ∧ (setRecord a r s).gas = s.gas ∧ (setRecord a r s).plan =
    s.plan ∧ (setRecord a r s).arbiter = s.arbiter ∧ (setRecord a r s).receiver = s.receiver ∧ (setRecord a r
    s).dispatcher = s.dispatcher ∧ (setRecord a r s).tx = s.tx ∧ (setRecord a r s).counters = s.counters ∧ (setRecord
    a r s).loader = s.loader ∧ (setRecord a r s).pins = s.pins ∧ (setRecord a r s).event = s.event ∧ (setRecord a r
    s).pending = s.pending := by
  simp [setRecord]

/-- `adoptPhase` changes at most base, plan, elements, counters. -/
@[simp] theorem adoptPhase_frame (x y : Nat) (s : State) :
    (adoptPhase x y s).programs = s.programs ∧ (adoptPhase x y s).handovers = s.handovers ∧ (adoptPhase x y s).gas =
    s.gas ∧ (adoptPhase x y s).arbiter = s.arbiter ∧ (adoptPhase x y s).peers = s.peers ∧ (adoptPhase x y s).receiver
    = s.receiver ∧ (adoptPhase x y s).dispatcher = s.dispatcher ∧ (adoptPhase x y s).tx = s.tx ∧ (adoptPhase x y
    s).loader = s.loader ∧ (adoptPhase x y s).pins = s.pins ∧ (adoptPhase x y s).event = s.event ∧ (adoptPhase x y
    s).pending = s.pending := by
  unfold adoptPhase; dsimp only; split <;> simp

/-- `restateClaim` changes at most plan, tx. -/
@[simp] theorem restateClaim_frame (st : Fin 8) (body : List Byte) (s : State) (c : Channel) :
    (restateClaim st body s c).base = s.base ∧ (restateClaim st body s c).programs = s.programs ∧ (restateClaim st
    body s c).handovers = s.handovers ∧ (restateClaim st body s c).elements = s.elements ∧ (restateClaim st body s
    c).gas = s.gas ∧ (restateClaim st body s c).arbiter = s.arbiter ∧ (restateClaim st body s c).peers = s.peers ∧
    (restateClaim st body s c).receiver = s.receiver ∧ (restateClaim st body s c).dispatcher = s.dispatcher ∧
    (restateClaim st body s c).counters = s.counters ∧ (restateClaim st body s c).loader = s.loader ∧ (restateClaim st
    body s c).pins = s.pins ∧ (restateClaim st body s c).event = s.event ∧ (restateClaim st body s c).pending =
    s.pending := by
  unfold restateClaim; dsimp only; split <;> simp

/-- `restateSpark` changes at most gas, tx, arbiter, programs, handovers, counters. -/
@[simp] theorem restateSpark_frame (st : Fin 8) (body : List Byte) (s : State) (c : Channel) :
    (restateSpark st body s c).base = s.base ∧ (restateSpark st body s c).elements = s.elements ∧ (restateSpark st
    body s c).plan = s.plan ∧ (restateSpark st body s c).peers = s.peers ∧ (restateSpark st body s c).receiver =
    s.receiver ∧ (restateSpark st body s c).dispatcher = s.dispatcher ∧ (restateSpark st body s c).loader = s.loader ∧
    (restateSpark st body s c).pins = s.pins ∧ (restateSpark st body s c).event = s.event ∧ (restateSpark st body s
    c).pending = s.pending := by
  unfold restateSpark; dsimp only; (repeat' split) <;> simp

/-- `restateAll` changes at most plan, gas, tx, arbiter, programs, handovers, counters. -/
@[simp] theorem restateAll_frame (st : Fin 8) (body : List Byte) (s : State) :
    (restateAll st body s).base = s.base ∧ (restateAll st body s).elements = s.elements ∧ (restateAll st body s).peers
    = s.peers ∧ (restateAll st body s).receiver = s.receiver ∧ (restateAll st body s).dispatcher = s.dispatcher ∧
    (restateAll st body s).loader = s.loader ∧ (restateAll st body s).pins = s.pins ∧ (restateAll st body s).event =
    s.event ∧ (restateAll st body s).pending = s.pending := by
  simp [restateAll, allChannels]

/-- `takePresence` changes at most base, plan, elements, gas, tx, arbiter, programs, handovers, counters, peers. -/
@[simp] theorem takePresence_frame (f : RxFrame) (s : State) :
    (takePresence f s).receiver = s.receiver ∧ (takePresence f s).dispatcher = s.dispatcher ∧ (takePresence f
    s).loader = s.loader ∧ (takePresence f s).pins = s.pins ∧ (takePresence f s).event = s.event ∧ (takePresence f
    s).pending = s.pending := by
  unfold takePresence; dsimp only; (repeat' split) <;> simp

/-- `takeSilence` changes at most peers, event. -/
@[simp] theorem takeSilence_frame (a : Station) (s : State) :
    (takeSilence a s).base = s.base ∧ (takeSilence a s).programs = s.programs ∧ (takeSilence a s).handovers =
    s.handovers ∧ (takeSilence a s).elements = s.elements ∧ (takeSilence a s).gas = s.gas ∧ (takeSilence a s).plan =
    s.plan ∧ (takeSilence a s).arbiter = s.arbiter ∧ (takeSilence a s).receiver = s.receiver ∧ (takeSilence a
    s).dispatcher = s.dispatcher ∧ (takeSilence a s).tx = s.tx ∧ (takeSilence a s).counters = s.counters ∧
    (takeSilence a s).loader = s.loader ∧ (takeSilence a s).pins = s.pins ∧ (takeSilence a s).pending = s.pending := by
  unfold takeSilence; dsimp only; (repeat' split) <;> simp

/-- `departureStep` changes at most peers, plan, arbiter. -/
@[simp] theorem departureStep_frame (a : Station) (s : State) :
    (departureStep a s).base = s.base ∧ (departureStep a s).programs = s.programs ∧ (departureStep a s).handovers =
    s.handovers ∧ (departureStep a s).elements = s.elements ∧ (departureStep a s).gas = s.gas ∧ (departureStep a
    s).receiver = s.receiver ∧ (departureStep a s).dispatcher = s.dispatcher ∧ (departureStep a s).tx = s.tx ∧
    (departureStep a s).counters = s.counters ∧ (departureStep a s).loader = s.loader ∧ (departureStep a s).pins =
    s.pins ∧ (departureStep a s).event = s.event ∧ (departureStep a s).pending = s.pending := by
  unfold departureStep; dsimp only; split <;> simp

/-- `takePresenceCount` changes at most peers, event. -/
@[simp] theorem takePresenceCount_frame (s : State) :
    (takePresenceCount s).base = s.base ∧ (takePresenceCount s).programs = s.programs ∧ (takePresenceCount
    s).handovers = s.handovers ∧ (takePresenceCount s).elements = s.elements ∧ (takePresenceCount s).gas = s.gas ∧
    (takePresenceCount s).plan = s.plan ∧ (takePresenceCount s).arbiter = s.arbiter ∧ (takePresenceCount s).receiver =
    s.receiver ∧ (takePresenceCount s).dispatcher = s.dispatcher ∧ (takePresenceCount s).tx = s.tx ∧
    (takePresenceCount s).counters = s.counters ∧ (takePresenceCount s).loader = s.loader ∧ (takePresenceCount s).pins
    = s.pins ∧ (takePresenceCount s).pending = s.pending := by
  unfold takePresenceCount; dsimp only; (repeat' split) <;> simp

/-- `presenceDueStep` changes at most peers, tx. -/
@[simp] theorem presenceDueStep_frame (s : State) :
    (presenceDueStep s).base = s.base ∧ (presenceDueStep s).programs = s.programs ∧ (presenceDueStep s).handovers =
    s.handovers ∧ (presenceDueStep s).elements = s.elements ∧ (presenceDueStep s).gas = s.gas ∧ (presenceDueStep
    s).plan = s.plan ∧ (presenceDueStep s).arbiter = s.arbiter ∧ (presenceDueStep s).receiver = s.receiver ∧
    (presenceDueStep s).dispatcher = s.dispatcher ∧ (presenceDueStep s).counters = s.counters ∧ (presenceDueStep
    s).loader = s.loader ∧ (presenceDueStep s).pins = s.pins ∧ (presenceDueStep s).event = s.event ∧ (presenceDueStep
    s).pending = s.pending := by
  simp [presenceDueStep]

/-- `enterListen` changes at most loader, receiver, base. -/
@[simp] theorem enterListen_frame (t : Nat) (s : State) :
    (enterListen t s).programs = s.programs ∧ (enterListen t s).handovers = s.handovers ∧ (enterListen t s).elements =
    s.elements ∧ (enterListen t s).gas = s.gas ∧ (enterListen t s).plan = s.plan ∧ (enterListen t s).arbiter =
    s.arbiter ∧ (enterListen t s).peers = s.peers ∧ (enterListen t s).dispatcher = s.dispatcher ∧ (enterListen t s).tx
    = s.tx ∧ (enterListen t s).counters = s.counters ∧ (enterListen t s).pins = s.pins ∧ (enterListen t s).event =
    s.event ∧ (enterListen t s).pending = s.pending := by
  simp [enterListen]

/-- `reportAllUsed` changes at most tx. -/
@[simp] theorem reportAllUsed_frame (s : State) :
    (reportAllUsed s).base = s.base ∧ (reportAllUsed s).programs = s.programs ∧ (reportAllUsed s).handovers =
    s.handovers ∧ (reportAllUsed s).elements = s.elements ∧ (reportAllUsed s).gas = s.gas ∧ (reportAllUsed s).plan =
    s.plan ∧ (reportAllUsed s).arbiter = s.arbiter ∧ (reportAllUsed s).peers = s.peers ∧ (reportAllUsed s).receiver =
    s.receiver ∧ (reportAllUsed s).dispatcher = s.dispatcher ∧ (reportAllUsed s).counters = s.counters ∧
    (reportAllUsed s).loader = s.loader ∧ (reportAllUsed s).pins = s.pins ∧ (reportAllUsed s).event = s.event ∧
    (reportAllUsed s).pending = s.pending := by
  simp only [reportAllUsed, allChannels, List.foldl_cons, List.foldl_nil]
  (repeat' split) <;> simp

/-- `enterRun` changes at most loader, peers, tx. -/
@[simp] theorem enterRun_frame (s : State) :
    (enterRun s).base = s.base ∧ (enterRun s).programs = s.programs ∧ (enterRun s).handovers = s.handovers ∧ (enterRun
    s).elements = s.elements ∧ (enterRun s).gas = s.gas ∧ (enterRun s).plan = s.plan ∧ (enterRun s).arbiter =
    s.arbiter ∧ (enterRun s).receiver = s.receiver ∧ (enterRun s).dispatcher = s.dispatcher ∧ (enterRun s).counters =
    s.counters ∧ (enterRun s).pins = s.pins ∧ (enterRun s).event = s.event ∧ (enterRun s).pending = s.pending := by
  simp [enterRun]

/-- `takeListen` changes at most loader, event. -/
@[simp] theorem takeListen_frame (s : State) :
    (takeListen s).base = s.base ∧ (takeListen s).programs = s.programs ∧ (takeListen s).handovers = s.handovers ∧
    (takeListen s).elements = s.elements ∧ (takeListen s).gas = s.gas ∧ (takeListen s).plan = s.plan ∧ (takeListen
    s).arbiter = s.arbiter ∧ (takeListen s).peers = s.peers ∧ (takeListen s).receiver = s.receiver ∧ (takeListen
    s).dispatcher = s.dispatcher ∧ (takeListen s).tx = s.tx ∧ (takeListen s).counters = s.counters ∧ (takeListen
    s).pins = s.pins ∧ (takeListen s).pending = s.pending := by
  unfold takeListen; dsimp only; (repeat' split) <;> simp

/-- `cutFrame` changes at most tx. -/
@[simp] theorem cutFrame_frame (s : State) :
    (cutFrame s).base = s.base ∧ (cutFrame s).programs = s.programs ∧ (cutFrame s).handovers = s.handovers ∧ (cutFrame
    s).elements = s.elements ∧ (cutFrame s).gas = s.gas ∧ (cutFrame s).plan = s.plan ∧ (cutFrame s).arbiter =
    s.arbiter ∧ (cutFrame s).peers = s.peers ∧ (cutFrame s).receiver = s.receiver ∧ (cutFrame s).dispatcher =
    s.dispatcher ∧ (cutFrame s).counters = s.counters ∧ (cutFrame s).loader = s.loader ∧ (cutFrame s).pins = s.pins ∧
    (cutFrame s).event = s.event ∧ (cutFrame s).pending = s.pending := by
  simp [cutFrame]

/-- `enterConfigFault` changes at most elements, gas, plan, tx, loader, receiver, base. -/
@[simp] theorem enterConfigFault_frame (s : State) :
    (enterConfigFault s).programs = s.programs ∧ (enterConfigFault s).handovers = s.handovers ∧ (enterConfigFault
    s).arbiter = s.arbiter ∧ (enterConfigFault s).peers = s.peers ∧ (enterConfigFault s).dispatcher = s.dispatcher ∧
    (enterConfigFault s).counters = s.counters ∧ (enterConfigFault s).pins = s.pins ∧ (enterConfigFault s).event =
    s.event ∧ (enterConfigFault s).pending = s.pending := by
  simp [enterConfigFault]

/-- `enterHold` changes at most elements, gas, plan, tx, loader. -/
@[simp] theorem enterHold_frame (s : State) :
    (enterHold s).base = s.base ∧ (enterHold s).programs = s.programs ∧ (enterHold s).handovers = s.handovers ∧
    (enterHold s).arbiter = s.arbiter ∧ (enterHold s).peers = s.peers ∧ (enterHold s).receiver = s.receiver ∧
    (enterHold s).dispatcher = s.dispatcher ∧ (enterHold s).counters = s.counters ∧ (enterHold s).pins = s.pins ∧
    (enterHold s).event = s.event ∧ (enterHold s).pending = s.pending := by
  simp [enterHold]

end Sys2Proof.Machine
end

