-- ==== Sys2Proof/Laws/Line.lean ====
section
/-!
SUPPORT. Laws/Line.lean: what the operations of the range line change.
-/

namespace Sys2Proof.Machine

/-- `takeSelect` changes at most tx. -/
@[simp] theorem takeSelect_frame (s : State) :
    (takeSelect s).base = s.base ∧ (takeSelect s).programs = s.programs ∧ (takeSelect s).handovers = s.handovers ∧
    (takeSelect s).elements = s.elements ∧ (takeSelect s).gas = s.gas ∧ (takeSelect s).plan = s.plan ∧ (takeSelect
    s).arbiter = s.arbiter ∧ (takeSelect s).peers = s.peers ∧ (takeSelect s).receiver = s.receiver ∧ (takeSelect
    s).dispatcher = s.dispatcher ∧ (takeSelect s).counters = s.counters ∧ (takeSelect s).loader = s.loader ∧
    (takeSelect s).pins = s.pins ∧ (takeSelect s).event = s.event ∧ (takeSelect s).pending = s.pending := by
  unfold takeSelect; (repeat' split) <;> simp

/-- `deferEnd` changes at most tx, receiver. -/
@[simp] theorem deferEnd_frame (q : Bool) (s : State) :
    (deferEnd q s).base = s.base ∧ (deferEnd q s).programs = s.programs ∧ (deferEnd q s).handovers = s.handovers ∧
    (deferEnd q s).elements = s.elements ∧ (deferEnd q s).gas = s.gas ∧ (deferEnd q s).plan = s.plan ∧ (deferEnd q
    s).arbiter = s.arbiter ∧ (deferEnd q s).peers = s.peers ∧ (deferEnd q s).dispatcher = s.dispatcher ∧ (deferEnd q
    s).counters = s.counters ∧ (deferEnd q s).loader = s.loader ∧ (deferEnd q s).pins = s.pins ∧ (deferEnd q s).event
    = s.event ∧ (deferEnd q s).pending = s.pending := by
  unfold deferEnd; (repeat' split) <;> simp

/-- `clearRefused` changes at most programs. -/
@[simp] theorem clearRefused_frame (x : Selection) (c : Channel) (s : State) :
    (clearRefused x c s).base = s.base ∧ (clearRefused x c s).handovers = s.handovers ∧ (clearRefused x c s).elements
    = s.elements ∧ (clearRefused x c s).gas = s.gas ∧ (clearRefused x c s).plan = s.plan ∧ (clearRefused x c
    s).arbiter = s.arbiter ∧ (clearRefused x c s).peers = s.peers ∧ (clearRefused x c s).receiver = s.receiver ∧
    (clearRefused x c s).dispatcher = s.dispatcher ∧ (clearRefused x c s).tx = s.tx ∧ (clearRefused x c s).counters =
    s.counters ∧ (clearRefused x c s).loader = s.loader ∧ (clearRefused x c s).pins = s.pins ∧ (clearRefused x c
    s).event = s.event ∧ (clearRefused x c s).pending = s.pending := by
  unfold clearRefused; (repeat' split) <;> simp

/-- `ownerSuccess` changes at most programs, counters. -/
@[simp] theorem ownerSuccess_frame (x : Selection) (s : State) :
    (ownerSuccess x s).base = s.base ∧ (ownerSuccess x s).handovers = s.handovers ∧ (ownerSuccess x s).elements =
    s.elements ∧ (ownerSuccess x s).gas = s.gas ∧ (ownerSuccess x s).plan = s.plan ∧ (ownerSuccess x s).arbiter =
    s.arbiter ∧ (ownerSuccess x s).peers = s.peers ∧ (ownerSuccess x s).receiver = s.receiver ∧ (ownerSuccess x
    s).dispatcher = s.dispatcher ∧ (ownerSuccess x s).tx = s.tx ∧ (ownerSuccess x s).loader = s.loader ∧ (ownerSuccess
    x s).pins = s.pins ∧ (ownerSuccess x s).event = s.event ∧ (ownerSuccess x s).pending = s.pending := by
  unfold ownerSuccess; (repeat' split) <;> simp

/-- `transmitSuccess` changes at most programs, counters, tx. -/
@[simp] theorem transmitSuccess_frame (x : Selection) (s : State) :
    (transmitSuccess x s).base = s.base ∧ (transmitSuccess x s).handovers = s.handovers ∧ (transmitSuccess x
    s).elements = s.elements ∧ (transmitSuccess x s).gas = s.gas ∧ (transmitSuccess x s).plan = s.plan ∧
    (transmitSuccess x s).arbiter = s.arbiter ∧ (transmitSuccess x s).peers = s.peers ∧ (transmitSuccess x s).receiver
    = s.receiver ∧ (transmitSuccess x s).dispatcher = s.dispatcher ∧ (transmitSuccess x s).loader = s.loader ∧
    (transmitSuccess x s).pins = s.pins ∧ (transmitSuccess x s).event = s.event ∧ (transmitSuccess x s).pending =
    s.pending := by
  simp [transmitSuccess]

/-- `abortFrame` changes at most counters, tx. -/
@[simp] theorem abortFrame_frame (s : State) :
    (abortFrame s).base = s.base ∧ (abortFrame s).programs = s.programs ∧ (abortFrame s).handovers = s.handovers ∧
    (abortFrame s).elements = s.elements ∧ (abortFrame s).gas = s.gas ∧ (abortFrame s).plan = s.plan ∧ (abortFrame
    s).arbiter = s.arbiter ∧ (abortFrame s).peers = s.peers ∧ (abortFrame s).receiver = s.receiver ∧ (abortFrame
    s).dispatcher = s.dispatcher ∧ (abortFrame s).loader = s.loader ∧ (abortFrame s).pins = s.pins ∧ (abortFrame
    s).event = s.event ∧ (abortFrame s).pending = s.pending := by
  simp [abortFrame]

/-- `discardFrame` changes at most receiver, counters. -/
@[simp] theorem discardFrame_frame (n : ReceiverState) (s : State) :
    (discardFrame n s).base = s.base ∧ (discardFrame n s).programs = s.programs ∧ (discardFrame n s).handovers =
    s.handovers ∧ (discardFrame n s).elements = s.elements ∧ (discardFrame n s).gas = s.gas ∧ (discardFrame n s).plan
    = s.plan ∧ (discardFrame n s).arbiter = s.arbiter ∧ (discardFrame n s).peers = s.peers ∧ (discardFrame n
    s).dispatcher = s.dispatcher ∧ (discardFrame n s).tx = s.tx ∧ (discardFrame n s).loader = s.loader ∧ (discardFrame
    n s).pins = s.pins ∧ (discardFrame n s).event = s.event ∧ (discardFrame n s).pending = s.pending := by
  simp [discardFrame]

/-- `queueFrame` changes at most dispatcher, counters. -/
@[simp] theorem queueFrame_frame (f : RxFrame) (s : State) :
    (queueFrame f s).base = s.base ∧ (queueFrame f s).programs = s.programs ∧ (queueFrame f s).handovers = s.handovers
    ∧ (queueFrame f s).elements = s.elements ∧ (queueFrame f s).gas = s.gas ∧ (queueFrame f s).plan = s.plan ∧
    (queueFrame f s).arbiter = s.arbiter ∧ (queueFrame f s).peers = s.peers ∧ (queueFrame f s).receiver = s.receiver ∧
    (queueFrame f s).tx = s.tx ∧ (queueFrame f s).loader = s.loader ∧ (queueFrame f s).pins = s.pins ∧ (queueFrame f
    s).event = s.event ∧ (queueFrame f s).pending = s.pending := by
  unfold queueFrame; (repeat' split) <;> simp

/-- `validFrame` changes at most elements, gas, plan, tx, loader, receiver, base, dispatcher, counters. -/
@[simp] theorem validFrame_frame (f : RxFrame) (s : State) :
    (validFrame f s).programs = s.programs ∧ (validFrame f s).handovers = s.handovers ∧ (validFrame f s).arbiter =
    s.arbiter ∧ (validFrame f s).peers = s.peers ∧ (validFrame f s).pins = s.pins ∧ (validFrame f s).event = s.event ∧
    (validFrame f s).pending = s.pending := by
  unfold validFrame; (repeat' split) <;> simp

/-- `endAssembly` changes at most receiver. -/
@[simp] theorem endAssembly_frame (s : State) :
    (endAssembly s).base = s.base ∧ (endAssembly s).programs = s.programs ∧ (endAssembly s).handovers = s.handovers ∧
    (endAssembly s).elements = s.elements ∧ (endAssembly s).gas = s.gas ∧ (endAssembly s).plan = s.plan ∧ (endAssembly
    s).arbiter = s.arbiter ∧ (endAssembly s).peers = s.peers ∧ (endAssembly s).dispatcher = s.dispatcher ∧
    (endAssembly s).tx = s.tx ∧ (endAssembly s).counters = s.counters ∧ (endAssembly s).loader = s.loader ∧
    (endAssembly s).pins = s.pins ∧ (endAssembly s).event = s.event ∧ (endAssembly s).pending = s.pending := by
  simp [endAssembly]

/-- `completeFrame` changes at most elements, gas, plan, tx, loader, receiver, base, dispatcher, counters. -/
@[simp] theorem completeFrame_frame (l : List Byte) (k : NoticeKind) (b : Bool) (s : State) :
    (completeFrame l k b s).programs = s.programs ∧ (completeFrame l k b s).handovers = s.handovers ∧ (completeFrame l
    k b s).arbiter = s.arbiter ∧ (completeFrame l k b s).peers = s.peers ∧ (completeFrame l k b s).pins = s.pins ∧
    (completeFrame l k b s).event = s.event ∧ (completeFrame l k b s).pending = s.pending := by
  unfold completeFrame; dsimp only; split <;> simp

/-- `frameChar` changes at most elements, gas, plan, tx, loader, receiver, base, dispatcher, counters. -/
@[simp] theorem frameChar_frame (b : Byte) (o : Bool) (s : State) :
    (frameChar b o s).programs = s.programs ∧ (frameChar b o s).handovers = s.handovers ∧ (frameChar b o s).arbiter =
    s.arbiter ∧ (frameChar b o s).peers = s.peers ∧ (frameChar b o s).pins = s.pins ∧ (frameChar b o s).event =
    s.event ∧ (frameChar b o s).pending = s.pending := by
  unfold frameChar; dsimp only; (repeat' split) <;> simp

/-- `receiveChar` changes at most elements, gas, plan, tx, loader, receiver, base, dispatcher, counters. -/
@[simp] theorem receiveChar_frame (ch : LineChar) (o : Bool) (s : State) :
    (receiveChar ch o s).programs = s.programs ∧ (receiveChar ch o s).handovers = s.handovers ∧ (receiveChar ch o
    s).arbiter = s.arbiter ∧ (receiveChar ch o s).peers = s.peers ∧ (receiveChar ch o s).pins = s.pins ∧ (receiveChar
    ch o s).event = s.event ∧ (receiveChar ch o s).pending = s.pending := by
  unfold receiveChar; (repeat' split) <;> simp

/-- `takeChar` changes at most elements, gas, plan, tx, loader, receiver, base, dispatcher, counters, programs. -/
@[simp] theorem takeChar_frame (ch : LineChar) (s : State) :
    (takeChar ch s).handovers = s.handovers ∧ (takeChar ch s).arbiter = s.arbiter ∧ (takeChar ch s).peers = s.peers ∧
    (takeChar ch s).pins = s.pins ∧ (takeChar ch s).event = s.event ∧ (takeChar ch s).pending = s.pending := by
  unfold takeChar; dsimp only; (repeat' split) <;> simp

/-- `takeChars` changes at most elements, gas, plan, tx, loader, receiver, base, dispatcher, counters, programs. -/
@[simp] theorem takeChars_frame (l : List Byte) (s : State) :
    (takeChars l s).handovers = s.handovers ∧ (takeChars l s).arbiter = s.arbiter ∧ (takeChars l s).peers = s.peers ∧
    (takeChars l s).pins = s.pins ∧ (takeChars l s).event = s.event ∧ (takeChars l s).pending = s.pending := by
  induction l generalizing s with
  | nil => simp [takeChars]
  | cons b bs ih =>
    have h := ih (takeChar { byte := b, framingError := false } s)
    simpa [takeChars] using h

/-- `senseLine` changes at most receiver. -/
@[simp] theorem senseLine_frame (b : Bool) (s : State) :
    (senseLine b s).base = s.base ∧ (senseLine b s).programs = s.programs ∧ (senseLine b s).handovers = s.handovers ∧
    (senseLine b s).elements = s.elements ∧ (senseLine b s).gas = s.gas ∧ (senseLine b s).plan = s.plan ∧
    (senseLine b s).arbiter = s.arbiter ∧ (senseLine b s).peers = s.peers ∧ (senseLine b s).dispatcher = s.dispatcher ∧
    (senseLine b s).tx = s.tx ∧ (senseLine b s).counters = s.counters ∧ (senseLine b s).loader = s.loader ∧
    (senseLine b s).pins = s.pins ∧ (senseLine b s).event = s.event ∧ (senseLine b s).pending = s.pending := by
  unfold senseLine; split <;> simp

/-- A resting line lowers the indication and nothing else (R133). -/
theorem lineRests_active (s : State) (h : s.active = true) :
    lineRests s = s.setReceiver { s.receiver with lineBusy := false } := by
  simp [lineRests, senseLine, h]

/-- `lineRests` changes at most receiver. -/
@[simp] theorem lineRests_frame (s : State) :
    (lineRests s).base = s.base ∧ (lineRests s).programs = s.programs ∧ (lineRests s).handovers = s.handovers ∧ (lineRests
    s).elements = s.elements ∧ (lineRests s).gas = s.gas ∧ (lineRests s).plan = s.plan ∧ (lineRests s).arbiter = s.arbiter ∧
    (lineRests s).peers = s.peers ∧ (lineRests s).dispatcher = s.dispatcher ∧ (lineRests s).tx = s.tx ∧ (lineRests
    s).counters = s.counters ∧ (lineRests s).loader = s.loader ∧ (lineRests s).pins = s.pins ∧ (lineRests s).event = s.event
    ∧ (lineRests s).pending = s.pending := by
  simp [lineRests]

/-- `lineGap` changes at most receiver, counters. -/
@[simp] theorem lineGap_frame (s : State) :
    (lineGap s).base = s.base ∧ (lineGap s).programs = s.programs ∧ (lineGap s).handovers = s.handovers ∧ (lineGap
    s).elements = s.elements ∧ (lineGap s).gas = s.gas ∧ (lineGap s).plan = s.plan ∧ (lineGap s).arbiter = s.arbiter ∧
    (lineGap s).peers = s.peers ∧ (lineGap s).dispatcher = s.dispatcher ∧ (lineGap s).tx = s.tx ∧ (lineGap s).loader =
    s.loader ∧ (lineGap s).pins = s.pins ∧ (lineGap s).event = s.event ∧ (lineGap s).pending = s.pending := by
  unfold lineGap; dsimp only; (repeat' split) <;> simp

/-- `lineQuiet` changes at most receiver. -/
@[simp] theorem lineQuiet_frame (s : State) :
    (lineQuiet s).base = s.base ∧ (lineQuiet s).programs = s.programs ∧ (lineQuiet s).handovers = s.handovers ∧
    (lineQuiet s).elements = s.elements ∧ (lineQuiet s).gas = s.gas ∧ (lineQuiet s).plan = s.plan ∧ (lineQuiet
    s).arbiter = s.arbiter ∧ (lineQuiet s).peers = s.peers ∧ (lineQuiet s).dispatcher = s.dispatcher ∧ (lineQuiet
    s).tx = s.tx ∧ (lineQuiet s).counters = s.counters ∧ (lineQuiet s).loader = s.loader ∧ (lineQuiet s).pins = s.pins
    ∧ (lineQuiet s).event = s.event ∧ (lineQuiet s).pending = s.pending := by
  unfold lineQuiet; dsimp only; (repeat' split) <;> simp

/-- `echoMismatch` changes at most elements, gas, plan, tx, loader, receiver, base, dispatcher, counters, programs. -/
@[simp] theorem echoMismatch_frame (ch : LineChar) (s : State) :
    (echoMismatch ch s).handovers = s.handovers ∧ (echoMismatch ch s).arbiter = s.arbiter ∧ (echoMismatch ch s).peers
    = s.peers ∧ (echoMismatch ch s).pins = s.pins ∧ (echoMismatch ch s).event = s.event ∧ (echoMismatch ch s).pending
    = s.pending := by
  unfold echoMismatch; (repeat' split) <;> simp

end Sys2Proof.Machine
end

