-- ==== Sys2Proof/Laws/Event.lean ====
section
/-!
SUPPORT. Laws/Event.lean: what taking a half-cycle event can do, what a due step can do, and how a command acts on a state in which
nothing is due. The principles at the end say once what a step of the machine consists of.
-/

namespace Sys2Proof.Machine

/-! ## One taking -/

@[simp] theorem setDue_frame (d : Option Due) (s : State) :
    (setDue d s).base = s.base ∧ (setDue d s).programs = s.programs ∧ (setDue d s).handovers = s.handovers ∧
    (setDue d s).elements = s.elements ∧ (setDue d s).gas = s.gas ∧ (setDue d s).plan = s.plan ∧
    (setDue d s).arbiter = s.arbiter ∧ (setDue d s).peers = s.peers ∧ (setDue d s).receiver = s.receiver ∧
    (setDue d s).dispatcher = s.dispatcher ∧ (setDue d s).tx = s.tx ∧ (setDue d s).counters = s.counters ∧
    (setDue d s).loader = s.loader ∧ (setDue d s).pins = s.pins ∧ (setDue d s).pending = s.pending ∧
    (setDue d s).event.due = d ∧ (setDue d s).event.untaken = s.event.untaken ∧
    (setDue d s).event.order = s.event.order ∧ (setDue d s).event.swapped = s.event.swapped ∧
    (setDue d s).event.results = s.event.results ∧ (setDue d s).event.startPoint = s.event.startPoint := by
  simp [setDue]

@[simp] theorem setUntaken_frame (xs : List Taking) (s : State) :
    (setUntaken xs s).base = s.base ∧ (setUntaken xs s).programs = s.programs ∧
    (setUntaken xs s).handovers = s.handovers ∧ (setUntaken xs s).elements = s.elements ∧
    (setUntaken xs s).gas = s.gas ∧ (setUntaken xs s).plan = s.plan ∧ (setUntaken xs s).arbiter = s.arbiter ∧
    (setUntaken xs s).peers = s.peers ∧ (setUntaken xs s).receiver = s.receiver ∧
    (setUntaken xs s).dispatcher = s.dispatcher ∧ (setUntaken xs s).tx = s.tx ∧
    (setUntaken xs s).counters = s.counters ∧ (setUntaken xs s).loader = s.loader ∧
    (setUntaken xs s).pins = s.pins ∧ (setUntaken xs s).pending = s.pending ∧
    (setUntaken xs s).event.due = s.event.due ∧ (setUntaken xs s).event.untaken = xs ∧
    (setUntaken xs s).event.order = s.event.order ∧ (setUntaken xs s).event.swapped = s.event.swapped ∧
    (setUntaken xs s).event.results = s.event.results ∧ (setUntaken xs s).event.startPoint = s.event.startPoint := by
  simp [setUntaken]

/-- What a hand-over does where a level is on its way, and nothing where none is (R22). -/
theorem takeHandover_cons (k : ChannelKind) (f : Channel → Nat → State → State) (c : Channel) (s : State) (level : Nat)
    (rest : List Nat) (ha : s.active = true) (hk : s.kind c = k) (hl : s.handovers[c] = level :: rest) :
    takeHandover k f c s = f c level (s.setHandovers c rest) := by
  unfold takeHandover
  rw [hl]
  simp [ha, hk]

theorem takeHandover_idle (k : ChannelKind) (f : Channel → Nat → State → State) (c : Channel) (s : State)
    (h : s.kind c ≠ k ∨ s.handovers[c] = []) : takeHandover k f c s = s := by
  unfold takeHandover
  split
  · rename_i hc
    simp only [Bool.and_eq_true, beq_iff_eq] at hc
    rw [h.resolve_left fun e => e hc.2]
  · rfl

/-- A property of states that the hand-over of a level keeps at either driver is kept by a hand-over. -/
theorem driverHandover_keeps {P : State → Prop} (c : Channel) (s : State) (h0 : P s)
    (he : ∀ l rest, s.kind c = .element → s.handovers[c] = l :: rest → P (takeElementLevel c l (takeHanded c (s.setHandovers c rest))))
    (hg : ∀ l rest, s.kind c = .gas → s.handovers[c] = l :: rest → P (takeGasLevel c l (s.setHandovers c rest))) :
    P (driverHandover c s) := by
  unfold driverHandover takeHandover
  split
  · split
    · split
      · exact h0
      · exact he _ _ (by assumption) (by assumption)
    · exact h0
  · split
    · split
      · exact h0
      · exact hg _ _ (by assumption) (by assumption)
    · exact h0
  · exact h0

/-- What a hand-over leaves as it was: all but the levels on their way, the driver, its flags and its free-outstanding indication. -/
@[simp] theorem driverHandover_frame (c : Channel) (s : State) :
    (driverHandover c s).base = s.base ∧ (driverHandover c s).programs = s.programs ∧ (driverHandover c s).plan = s.plan ∧
    (driverHandover c s).peers = s.peers ∧ (driverHandover c s).receiver = s.receiver ∧
    (driverHandover c s).dispatcher = s.dispatcher ∧ (driverHandover c s).counters = s.counters ∧
    (driverHandover c s).loader = s.loader ∧ (driverHandover c s).pins = s.pins ∧
    (driverHandover c s).event.due = s.event.due ∧ (driverHandover c s).event.untaken = s.event.untaken ∧
    (driverHandover c s).pending = s.pending ∧ (driverHandover c s).arbiter.queue = s.arbiter.queue ∧
    (driverHandover c s).arbiter.dwell = s.arbiter.dwell := by
  refine driverHandover_keeps (P := fun u => u.base = s.base ∧ u.programs = s.programs ∧ u.plan = s.plan ∧ u.peers = s.peers ∧
    u.receiver = s.receiver ∧ u.dispatcher = s.dispatcher ∧ u.counters = s.counters ∧ u.loader = s.loader ∧ u.pins = s.pins ∧
    u.event.due = s.event.due ∧ u.event.untaken = s.event.untaken ∧ u.pending = s.pending ∧ u.arbiter.queue = s.arbiter.queue ∧
    u.arbiter.dwell = s.arbiter.dwell) c s
    ?_ ?_ ?_ <;> intros <;> simp

/-- A hand-over concerns its own channel alone. -/
theorem driverHandover_gas_at (d c : Channel) (s : State) (h : c ≠ d) : (driverHandover d s).gas[c] = s.gas[c] := by
  refine driverHandover_keeps (P := fun u => u.gas[c] = s.gas[c]) d s rfl ?_ ?_
  · intros; simp
  · intro l rest _ _
    rw [takeGasLevel_gas_at d c l _ h]
    rfl

theorem driverHandover_handovers_at (d c : Channel) (s : State) (h : c ≠ d) :
    (driverHandover d s).handovers[c] = s.handovers[c] := by
  have hd : d.val ≠ c.val := fun e => h (Fin.ext e.symm)
  refine driverHandover_keeps (P := fun u => u.handovers[c] = s.handovers[c]) d s rfl ?_ ?_ <;> intros <;> simp [hd]

/-- No taking changes the time base, the receiver, the FIFO, the pins or the queue. -/
@[simp] theorem takeOne_frame (x : Taking) (s : State) :
    (takeOne x s).base = s.base ∧ (takeOne x s).receiver = s.receiver ∧
    (takeOne x s).dispatcher.fifo = s.dispatcher.fifo ∧ (takeOne x s).pins = s.pins ∧
    (takeOne x s).pending = s.pending := by
  cases x <;> simp [takeOne]

/-- The levels on their way to a driver wait for a hand-over at it. -/
theorem takeOne_handovers_at (x : Taking) (s : State) (c : Channel) (h : x ≠ .handover c) :
    (takeOne x s).handovers[c] = s.handovers[c] := by
  cases x <;> first | (simp [takeOne]; done) | exact driverHandover_handovers_at _ c s fun e => h (by rw [e])

/-- Which taking can change a channel's program, a gas sequencer, the arbiter, the peer table, the loader, the counters. -/
theorem takeOne_programs (x : Taking) (s : State) (h : ∀ c, x ≠ .count c) : (takeOne x s).programs = s.programs := by
  cases x <;> first | (simp [takeOne]; done) | exact absurd rfl (h _)

theorem takeOne_gas (x : Taking) (s : State) (h : ∀ c, x ≠ .flame c) (h' : ∀ c, x ≠ .handover c) :
    (takeOne x s).gas = s.gas := by
  cases x <;> first | (simp [takeOne]; done) | exact absurd rfl (h _) | exact absurd rfl (h' _)

theorem takeOne_arbiter (x : Taking) (s : State) (h : x ≠ .dwell) (h' : ∀ c, x ≠ .handover c) :
    (takeOne x s).arbiter = s.arbiter := by
  cases x <;> first | (simp [takeOne]; done) | exact absurd rfl h | exact absurd rfl (h' _)

theorem takeOne_loader (x : Taking) (s : State) (h : x ≠ .listen) : (takeOne x s).loader = s.loader := by
  cases x <;> first | (simp [takeOne]; done) | exact absurd rfl h

theorem takeOne_peers (x : Taking) (s : State) (h : ∀ a, x ≠ .silence a) (h' : x ≠ .presence) :
    (takeOne x s).peers = s.peers := by
  cases x <;> first | (simp [takeOne]; done) | exact absurd rfl (h _) | exact absurd rfl h'

/-- No taking counts anything but the sheds of the swap. -/
theorem takeOne_counters (x : Taking) (s : State) :
    (takeOne x s).counters = { s.counters with sheds := (takeOne x s).counters.sheds } := by
  cases x <;> first | (simp [takeOne]; done) | (simpa [takeOne] using takeSwap_counters s)

/-- No taking changes the node state or the options. -/
@[simp] theorem takeOne_node (x : Taking) (s : State) :
    (takeOne x s).loader.node = s.loader.node ∧ (takeOne x s).loader.held = s.loader.held ∧
    (takeOne x s).loader.options = s.loader.options ∧ (takeOne x s).loader.supplyCode = s.loader.supplyCode := by
  cases x <;> simp [takeOne]
  unfold takeListen
  dsimp only
  (repeat' split) <;> simp

/-- A channel's program is changed by the channel's own count alone. -/
theorem takeOne_program_at (x : Taking) (s : State) (c : Channel) (h : x ≠ .count c) :
    (takeOne x s).programs[c] = s.programs[c] := by
  by_cases hx : ∀ d, x ≠ .count d
  · rw [takeOne_programs x s hx]
  · obtain ⟨d, rfl⟩ := not_forall_not.mp hx
    have hd : d.val ≠ c.val := fun e => h (by rw [Fin.ext e])
    unfold takeOne takeCount
    dsimp only
    (repeat' split) <;> simp [hd]

/-- A gas sequencer is changed by the channel's own flame taking and hand-over alone. -/
theorem takeOne_gas_at (x : Taking) (s : State) (c : Channel) (h : x ≠ .flame c) (h' : x ≠ .handover c) :
    (takeOne x s).gas[c] = s.gas[c] := by
  by_cases hx : ∀ d, x ≠ .flame d
  · by_cases hy : ∀ d, x ≠ .handover d
    · rw [takeOne_gas x s hx hy]
    · obtain ⟨d, rfl⟩ := not_forall_not.mp hy
      exact driverHandover_gas_at d c s fun e => h' (by rw [e])
  · obtain ⟨d, rfl⟩ := not_forall_not.mp hx
    have hd : d.val ≠ c.val := fun e => h (by rw [Fin.ext e])
    unfold takeOne takeFlame
    dsimp only
    have hr : ∀ (b : Bool) (u : State), (sequencerRest d b u).gas[c.val] = u.gas[c.val] := by
      intro b u
      unfold sequencerRest setProvenStep countDown
      dsimp only
      (repeat' split) <;> simp [hd]
    (repeat' split) <;> simp [hr, hd]

/-- A peer record is changed by the station's own countdown alone. -/
theorem takeOne_record_at (x : Taking) (s : State) (a : Station) (h : x ≠ .silence a) :
    (takeOne x s).peers.records[a] = s.peers.records[a] := by
  by_cases hx : ∀ d, x ≠ .silence d
  · by_cases hp : x = .presence
    · subst hp
      unfold takeOne takePresenceCount
      dsimp only
      (repeat' split) <;> simp
    · rw [takeOne_peers x s hx hp]
  · obtain ⟨d, rfl⟩ := not_forall_not.mp hx
    have hd : a ≠ d := fun e => h (by rw [e])
    have hv : d.val ≠ a.val := fun e => hd (Fin.ext e.symm)
    unfold takeOne takeSilence
    dsimp only
    (repeat' split) <;> simp [setRecord, hv]

/-- No taking but a hand-over changes a burner's heat state, valve, spark, level, attempts or stray-flame indication. -/
theorem takeOne_gas_kept (x : Taking) (s : State) (c : Channel) (h : x ≠ .handover c) :
    (takeOne x s).gas[c].heat = s.gas[c].heat ∧ (takeOne x s).gas[c].valve = s.gas[c].valve ∧
    (takeOne x s).gas[c].spark = s.gas[c].spark ∧ (takeOne x s).gas[c].level = s.gas[c].level ∧
    (takeOne x s).gas[c].attempts = s.gas[c].attempts ∧ (takeOne x s).gas[c].stray = s.gas[c].stray ∧
    (takeOne x s).gas[c].flame = s.gas[c].flame := by
  by_cases hx : x = .flame c
  · subst hx
    have hr : ∀ (b : Bool) (u : State),
        (sequencerRest c b u).gas[c.val].heat = u.gas[c.val].heat ∧
        (sequencerRest c b u).gas[c.val].valve = u.gas[c.val].valve ∧
        (sequencerRest c b u).gas[c.val].spark = u.gas[c.val].spark ∧
        (sequencerRest c b u).gas[c.val].level = u.gas[c.val].level ∧
        (sequencerRest c b u).gas[c.val].attempts = u.gas[c.val].attempts ∧
        (sequencerRest c b u).gas[c.val].stray = u.gas[c.val].stray ∧
        (sequencerRest c b u).gas[c.val].flame = u.gas[c.val].flame := by
      intro b u
      unfold sequencerRest setProvenStep countDown
      dsimp only
      (repeat' split) <;> simp
    unfold takeOne takeFlame
    dsimp only
    (repeat' split) <;> simp [hr]
  · rw [takeOne_gas_at x s c hx h]
    simp

/-- No taking but a hand-over touches a flag but claim-, release- and state-pending; those of a channel are the driver's and the
report's. -/
theorem takeOne_flagOf (x : Taking) (s : State) (r : Request) (hh : ∀ c, x ≠ .handover c) (hc : ∀ c, r ≠ .ofChannel .claim c)
    (hr : ∀ c, r ≠ .ofChannel .release c) : flagOf (takeOne x s).tx r = flagOf s.tx r := by
  have raise : ∀ (q : Request) (u : State), r ≠ q → flagOf (raiseFlag q u).tx r = flagOf u.tx r := by
    intro q u h; simp [raiseFlag, flagOf_setFlagOf_of_ne _ _ _ _ h]
  have lower : ∀ (q : Request) (u : State), r ≠ q → flagOf (lowerFlag q u).tx r = flagOf u.tx r := by
    intro q u h; simp [lowerFlag, flagOf_setFlagOf_of_ne _ _ _ _ h]
  have rc : ∀ c u, flagOf (raiseClaim c u).tx r = flagOf u.tx r := by
    intro c u; unfold raiseClaim; rw [lower _ _ (hr c), raise _ _ (hc c)]
  have rr : ∀ c u, flagOf (raiseRelease c u).tx r = flagOf u.tx r := by
    intro c u; unfold raiseRelease; rw [lower _ _ (hc c), raise _ _ (hr c)]
  cases x <;> first | (simp [takeOne]; done) | exact absurd rfl (hh _) | skip
  · unfold takeOne takeSample sampleDemand takeHanded applyResult leaveShare standingRelease
    dsimp only
    (repeat' split) <;> simp [rc, rr]
  · unfold takeOne takeSelect
    dsimp only
    split
    · rcases r with _ | _ | _ | ⟨k, c⟩
      · rfl
      · rfl
      · rfl
      · cases k <;> rfl
    · rfl

/-- No taking touches a flag of a kind that no driver asks for. -/
theorem takeOne_stateFlag (x : Taking) (s : State) (r : Request) (h : ∀ k c, r = .ofChannel k c → k = .state) :
    flagOf (takeOne x s).tx r = flagOf s.tx r := by
  by_cases hx : ∀ c, x ≠ .handover c
  · refine takeOne_flagOf x s r hx ?_ ?_ <;> (intro c e; exact absurd (h _ _ e) (by simp))
  · obtain ⟨c, rfl⟩ := not_forall_not.mp hx
    have ne : ∀ k, k ≠ .state → r ≠ .ofChannel k c := fun k hk e => hk (h _ _ e)
    have raise : ∀ (k : ChannelRequest) (u : State), k ≠ .state → flagOf (raiseFlag (.ofChannel k c) u).tx r = flagOf u.tx r := by
      intro k u hk; simp [raiseFlag, flagOf_setFlagOf_of_ne _ _ _ _ (ne k hk)]
    have lower : ∀ (k : ChannelRequest) (u : State), k ≠ .state → flagOf (lowerFlag (.ofChannel k c) u).tx r = flagOf u.tx r := by
      intro k u hk; simp [lowerFlag, flagOf_setFlagOf_of_ne _ _ _ _ (ne k hk)]
    refine driverHandover_keeps (P := fun u => flagOf u.tx r = flagOf s.tx r) c s rfl ?_ ?_
    · intro l rest _ _
      unfold takeElementLevel takeHanded applyResult startWanting leaveShare standingRelease raiseClaim raiseRelease
      dsimp only
      (repeat' split) <;> simp [raise, lower]
    · intro l rest _ _
      unfold takeGasLevel endWanting enterWaitSpark strayTest standingFree freeIfQueued raiseSpark raiseSparkFree
      dsimp only
      (repeat' split) <;> simp [raise, lower]

/-! ## Taking the event -/

theorem resumeTaking_nil (s : State) : resumeTaking [] s = endTaking (setUntaken [] s) := rfl

theorem resumeTaking_cons (x : Taking) (xs : List Taking) (s : State) : resumeTaking (x :: xs) s =
    if (reporting (takeOne x) s).event.due = none then resumeTaking xs (reporting (takeOne x) s)
    else setUntaken xs (reporting (takeOne x) s) := rfl

/-- A property that every taking keeps is kept by taking any part of an event. -/
theorem resumeTaking_keeps {P : State → Prop} (hu : ∀ xs s, P s → P (setUntaken xs s))
    (hd : ∀ s, P s → P (setDue (some .badRunLost) s)) :
    ∀ (xs : List Taking) (_ : ∀ x ∈ xs, ∀ s, P s → P (reporting (takeOne x) s)) (s : State), P s → P (resumeTaking xs s)
  | [], _, s, h => by
    unfold resumeTaking endTaking
    split
    · exact hd _ (hu _ _ h)
    · exact hu _ _ h
  | x :: xs, ht, s, h => by
    have h1 := ht x (List.mem_cons_self ..) s h
    unfold resumeTaking
    dsimp only
    split
    · exact resumeTaking_keeps hu hd xs (fun y hy => ht y (List.mem_cons_of_mem _ hy)) _ h1
    · exact hu _ _ h1

/-- What taking any part of an event leaves as it was. -/
@[simp] theorem resumeTaking_frame (xs : List Taking) (s : State) :
    (resumeTaking xs s).base = s.base ∧
    (resumeTaking xs s).receiver = s.receiver ∧ (resumeTaking xs s).dispatcher.fifo = s.dispatcher.fifo ∧
    (resumeTaking xs s).pins = s.pins ∧ (resumeTaking xs s).pending = s.pending ∧
    (resumeTaking xs s).loader.node = s.loader.node ∧ (resumeTaking xs s).loader.held = s.loader.held ∧
    (resumeTaking xs s).loader.options = s.loader.options := by
  refine resumeTaking_keeps (P := fun u => u.base = s.base ∧ u.receiver = s.receiver ∧
    u.dispatcher.fifo = s.dispatcher.fifo ∧ u.pins = s.pins ∧ u.pending = s.pending ∧ u.loader.node = s.loader.node ∧
    u.loader.held = s.loader.held ∧ u.loader.options = s.loader.options) ?_ ?_ xs ?_ s ?_
  · intro xs u h; simpa using h
  · intro u h; simpa using h
  · intro x _ u h; simpa using h
  · simp

/-- The levels on their way to a driver stay while no hand-over at it is among the takings. -/
theorem resumeTaking_handovers_at (xs : List Taking) (s : State) (c : Channel) (h : .handover c ∉ xs) :
    (resumeTaking xs s).handovers[c] = s.handovers[c] := by
  refine resumeTaking_keeps (P := fun u => u.handovers[c] = s.handovers[c]) ?_ ?_ xs ?_ s rfl
  · intro xs u h; simpa using h
  · intro u h; simpa using h
  · intro x hx u hu
    have := takeOne_handovers_at x u c (fun e => h (e ▸ hx))
    simpa using this.trans hu

/-- A channel's program stays as it was while its own count is not among the takings. -/
theorem resumeTaking_program_at (xs : List Taking) (s : State) (c : Channel) (h : .count c ∉ xs) :
    (resumeTaking xs s).programs[c] = s.programs[c] := by
  refine resumeTaking_keeps (P := fun u => u.programs[c] = s.programs[c]) ?_ ?_ xs ?_ s rfl
  · intro xs u h; simpa using h
  · intro u h; simpa using h
  · intro x hx u hu
    have hne : x ≠ .count c := fun e => h (e ▸ hx)
    have := takeOne_program_at x u c hne
    simpa using this.trans hu

/-- A gas sequencer stays as it was while neither its own flame taking nor a hand-over at it is among the takings. -/
theorem resumeTaking_gas_at (xs : List Taking) (s : State) (c : Channel) (h : .flame c ∉ xs) (h' : .handover c ∉ xs) :
    (resumeTaking xs s).gas[c] = s.gas[c] := by
  refine resumeTaking_keeps (P := fun u => u.gas[c] = s.gas[c]) ?_ ?_ xs ?_ s rfl
  · intro xs u h; simpa using h
  · intro u h; simpa using h
  · intro x hx u hu
    have hne : x ≠ .flame c := fun e => h (e ▸ hx)
    have := takeOne_gas_at x u c hne (fun e => h' (e ▸ hx))
    simpa using this.trans hu

/-- The arbiter stays as it was while neither the dwell count nor a hand-over is among the takings. -/
theorem resumeTaking_arbiter (xs : List Taking) (s : State) (h : .dwell ∉ xs) (h' : ∀ c, .handover c ∉ xs) :
    (resumeTaking xs s).arbiter = s.arbiter := by
  refine resumeTaking_keeps (P := fun u => u.arbiter = s.arbiter) ?_ ?_ xs ?_ s rfl
  · intro xs u h; simpa using h
  · intro u h; simpa using h
  · intro x hx u hu
    have := takeOne_arbiter x u (fun e => h (e ▸ hx)) (fun c e => h' c (e ▸ hx))
    simpa using this.trans hu

/-- The spark queue is changed by no taking. -/
@[simp] theorem resumeTaking_queue (xs : List Taking) (s : State) :
    (resumeTaking xs s).arbiter.queue = s.arbiter.queue := by
  refine resumeTaking_keeps (P := fun u => u.arbiter.queue = s.arbiter.queue) ?_ ?_ xs ?_ s rfl
  · intro xs u h; simpa using h
  · intro u h; simpa using h
  · intro x _ u h
    refine Eq.trans ?_ h
    have dw : (takeDwell u).arbiter.queue = u.arbiter.queue := by
      unfold takeDwell
      dsimp only
      (repeat' split) <;> simp
    cases x <;> simp [takeOne, dw]

/-- A peer record stays as it was while the station's countdown is not among the takings. -/
theorem resumeTaking_record_at (xs : List Taking) (s : State) (a : Station) (h : .silence a ∉ xs) :
    (resumeTaking xs s).peers.records[a] = s.peers.records[a] := by
  refine resumeTaking_keeps (P := fun u => u.peers.records[a] = s.peers.records[a]) ?_ ?_ xs ?_ s rfl
  · intro xs u h; simpa using h
  · intro u h; simpa using h
  · intro x hx u hu
    have := takeOne_record_at x u a (fun e => h (e ▸ hx))
    simpa using this.trans hu

/-- The presence count stays as it was while its taking is not among the takings. -/
theorem resumeTaking_presenceCount (xs : List Taking) (s : State) (h : .presence ∉ xs) :
    (resumeTaking xs s).peers.presenceCount = s.peers.presenceCount := by
  refine resumeTaking_keeps (P := fun u => u.peers.presenceCount = s.peers.presenceCount) ?_ ?_ xs ?_ s rfl
  · intro xs u h; simpa using h
  · intro u h; simpa using h
  · intro x hx u hu
    have hne : x ≠ .presence := fun e => h (e ▸ hx)
    have key : (takeOne x u).peers.presenceCount = u.peers.presenceCount := by
      by_cases hs : ∀ a, x ≠ .silence a
      · rw [takeOne_peers x u hs hne]
      · obtain ⟨a, rfl⟩ := not_forall_not.mp hs
        unfold takeOne takeSilence
        dsimp only
        (repeat' split) <;> simp [setRecord]
    simpa using key.trans hu

/-- The counters but for the sheds are changed by no taking. -/
@[simp] theorem resumeTaking_counters (xs : List Taking) (s : State) :
    (resumeTaking xs s).counters.checkErrors = s.counters.checkErrors ∧
    (resumeTaking xs s).counters.collisions = s.counters.collisions ∧
    (resumeTaking xs s).counters.fifoOverflows = s.counters.fifoOverflows ∧
    (resumeTaking xs s).counters.phaseAdjusts = s.counters.phaseAdjusts ∧
    (resumeTaking xs s).counters.ignitionFails = s.counters.ignitionFails ∧
    (resumeTaking xs s).counters.flameLosses = s.counters.flameLosses ∧
    (resumeTaking xs s).counters.sparkConflicts = s.counters.sparkConflicts := by
  refine resumeTaking_keeps (P := fun u => u.counters.checkErrors = s.counters.checkErrors ∧
    u.counters.collisions = s.counters.collisions ∧ u.counters.fifoOverflows = s.counters.fifoOverflows ∧
    u.counters.phaseAdjusts = s.counters.phaseAdjusts ∧ u.counters.ignitionFails = s.counters.ignitionFails ∧
    u.counters.flameLosses = s.counters.flameLosses ∧ u.counters.sparkConflicts = s.counters.sparkConflicts)
    ?_ ?_ xs ?_ s (by simp)
  · intro xs u h; simpa using h
  · intro u h; simpa using h
  · intro x _ u h
    have w := takeOne_counters x u
    simp only [reporting_frame]
    rw [w]
    exact h

/-- Taking any part of an event without a hand-over keeps a burner's heat state, valve, spark, level, attempts and stray-flame
indication. -/
theorem resumeTaking_gas_kept (xs : List Taking) (s : State) (c : Channel) (hh : .handover c ∉ xs) :
    (resumeTaking xs s).gas[c].heat = s.gas[c].heat ∧ (resumeTaking xs s).gas[c].valve = s.gas[c].valve ∧
    (resumeTaking xs s).gas[c].spark = s.gas[c].spark ∧ (resumeTaking xs s).gas[c].level = s.gas[c].level ∧
    (resumeTaking xs s).gas[c].attempts = s.gas[c].attempts ∧ (resumeTaking xs s).gas[c].stray = s.gas[c].stray ∧
    (resumeTaking xs s).gas[c].flame = s.gas[c].flame := by
  refine resumeTaking_keeps (P := fun u => u.gas[c].heat = s.gas[c].heat ∧ u.gas[c].valve = s.gas[c].valve ∧
    u.gas[c].spark = s.gas[c].spark ∧ u.gas[c].level = s.gas[c].level ∧ u.gas[c].attempts = s.gas[c].attempts ∧
    u.gas[c].stray = s.gas[c].stray ∧ u.gas[c].flame = s.gas[c].flame) ?_ ?_ xs ?_ s (by simp)
  · intro xs u h; simpa using h
  · intro u h; simpa using h
  · intro x hx u h
    have w := takeOne_gas_kept x u c (fun e => hh (e ▸ hx))
    simp only [reporting_frame]
    rw [w.1, w.2.1, w.2.2.1, w.2.2.2.1, w.2.2.2.2.1, w.2.2.2.2.2.1, w.2.2.2.2.2.2]
    exact h

/-- Taking any part of an event without a hand-over leaves every flag but claim-, release- and state-pending. -/
theorem resumeTaking_flagOf (xs : List Taking) (s : State) (r : Request) (hh : ∀ c, .handover c ∉ xs) (hc : ∀ c, r ≠ .ofChannel .claim c)
    (hr : ∀ c, r ≠ .ofChannel .release c) (hs : ∀ c, r ≠ .ofChannel .state c) :
    flagOf (resumeTaking xs s).tx r = flagOf s.tx r := by
  refine resumeTaking_keeps (P := fun u => flagOf u.tx r = flagOf s.tx r) ?_ ?_ xs ?_ s rfl
  · intro xs u h; simpa using h
  · intro u h; simpa using h
  · intro x hx u h
    unfold reporting
    rw [flagOf_noteReports _ _ _ hs, takeOne_flagOf x u r (fun c e => hh c (e ▸ hx)) hc hr, h]

/-- Taking any part of an event clears no state-pending. -/
theorem resumeTaking_stateFlag (xs : List Taking) (s : State) (c : Channel)
    (h : flagSet s (.ofChannel .state c) = true) : flagSet (resumeTaking xs s) (.ofChannel .state c) = true := by
  refine resumeTaking_keeps (P := fun u => flagSet u (.ofChannel .state c) = true) ?_ ?_ xs ?_ s h
  · intro xs u h; simpa [flagSet] using h
  · intro u h; simpa [flagSet] using h
  · intro x _ u h
    refine flagSet_noteReports _ _ _ ?_
    unfold flagSet at *
    rw [takeOne_stateFlag x u _ (fun k d e => by cases e; rfl)]
    exact h

/-! ## The event itself -/

/-- What a half-cycle event leaves, where one is made (R13). -/
theorem halfCycleEvent_frame (t : Nat) (s : State) (ha : s.active = true) :
    (halfCycleEvent t s).base = { s.base with
      phase := (s.base.phase + 1) % s.burst, lastEvent := some t, eventPhase := (s.base.phase + 1) % s.burst
      eventRate := s.base.tickRate } ∧
    (halfCycleEvent t s).dispatcher.fifo = s.dispatcher.fifo ∧
    (halfCycleEvent t s).pins = s.pins ∧ (halfCycleEvent t s).pending = s.pending ∧
    (halfCycleEvent t s).loader.node = s.loader.node ∧ (halfCycleEvent t s).loader.held = s.loader.held ∧
    (halfCycleEvent t s).loader.options = s.loader.options ∧
    (halfCycleEvent t s).arbiter.queue = s.arbiter.queue := by
  simp [halfCycleEvent, ha, openEvent, nextPhase, State.burst]

/-- Where no event is made (R11). -/
theorem halfCycleEvent_of_inactive (t : Nat) (s : State) (ha : s.active = false) : halfCycleEvent t s = s := by
  simp [halfCycleEvent, ha]

/-- The sender's order puts a hand-over into an event, and nothing else does. -/
theorem handover_mem_fullOrder (order : List Taking) (c : Channel) : .handover c ∈ fullOrder order ↔ .handover c ∈ order := by
  have key : ∀ (l seen : List Taking), .handover c ∈ firstOnce seen l ↔ .handover c ∈ l := by
    intro l
    induction l with
    | nil => intro seen; simp [firstOnce]
    | cons x xs ih =>
      intro seen
      unfold firstOnce
      split
      · rename_i hx
        rw [ih, List.mem_cons]
        refine ⟨Or.inr, fun h => h.resolve_left fun e => ?_⟩
        rw [← e] at hx
        simp [Taking.isHandover] at hx
      · rw [List.mem_cons, List.mem_cons, ih]
  unfold fullOrder
  rw [key, List.mem_append]
  exact ⟨fun h => h.resolve_right (by simp [allTakings, allStations, allChannels]), Or.inl⟩

/-- A half-cycle event with no hand-over at it keeps a burner's heat state, valve and spark. -/
theorem halfCycleEvent_gas_kept (t : Nat) (s : State) (c : Channel) (h : .handover c ∉ s.event.order) :
    (halfCycleEvent t s).gas[c].heat = s.gas[c].heat ∧ (halfCycleEvent t s).gas[c].valve = s.gas[c].valve ∧
    (halfCycleEvent t s).gas[c].spark = s.gas[c].spark := by
  unfold halfCycleEvent
  split
  · have w := resumeTaking_gas_kept (fullOrder s.event.order) (openEvent t s) c
      (fun m => h ((handover_mem_fullOrder _ _).mp m))
    have g : (openEvent t s).gas = s.gas := by simp [openEvent]
    rw [g] at w
    exact ⟨w.1, w.2.1, w.2.2.1⟩
  · simp

/-- Taking an event ends with nothing due and nothing left, or with a step due. -/
theorem resumeTaking_ends (xs : List Taking) (s : State) (h : (resumeTaking xs s).event.due = none) :
    (resumeTaking xs s).event.untaken = [] ∧ ((resumeTaking xs s).locked = true → (resumeTaking xs s).base.badRun < 3) := by
  induction xs generalizing s with
  | nil =>
    rw [resumeTaking_nil] at *
    unfold endTaking at *
    split at h
    · simp at h
    · rename_i hn
      rw [if_neg hn]
      refine ⟨by simp, fun hl => ?_⟩
      by_contra hb
      exact hn ⟨h, by simp, hl, by omega⟩
  | cons x xs ih =>
    rw [resumeTaking_cons] at *
    split at h
    · rename_i hd
      rw [if_pos hd]
      exact ih _ h
    · rename_i hd
      rw [(setUntaken_frame _ _).2.2.2.2.2.2.2.2.2.2.2.2.2.2.2.1] at h
      exact absurd h hd

/-! ## Commands on a state in which nothing is due -/

theorem settleSteps_of_atRest (stop : Option Due) (n : Nat) (s : State) (h : s.atRest) : settleSteps stop n s = s := by
  cases n with
  | zero => rfl
  | succ n => unfold settleSteps; rw [show s.event.due = none from h]

/-- Nothing is left to carry out. -/
theorem settle_of_atRest (s : State) (h : s.atRest) : settle s = s := settleSteps_of_atRest _ _ _ h

/-- An arrival at a node that is not held, with nothing due, has its own effect alone. -/
theorem act_of_atRest (f : State → State) (s : State) (hh : s.loader.held = false) (h : s.atRest) :
    act f s = .next (f s) := by
  simp [act, hh, settle_of_atRest s h]

/-- Nothing happens at a held node. -/
theorem act_of_held (f : State → State) (s : State) (hh : s.loader.held = true) : act f s = .next s := by
  simp [act, hh]

theorem actDue_of_held (d : Due) (s : State) (hh : s.loader.held = true) : actDue d s = .next s := by
  simp [actDue, hh]

/-- The command of a due step, where that step is due, carries it out. -/
theorem actDue_of_due (d : Due) (s : State) (hh : s.loader.held = false) (h : s.event.due = some d) :
    actDue d s = .next (carryOut d s) := by
  have : settleSteps (some d) (settleFuel s) s = s := by
    unfold settleFuel settleSteps
    simp [h]
  simp [actDue, hh, reachStep, this, h]

/-- The command of a due step, where nothing is due, changes nothing. -/
theorem actDue_of_atRest (d : Due) (s : State) (hh : s.loader.held = false) (h : s.atRest) : actDue d s = .next s := by
  have h' : s.event.due = none := h
  simp [actDue, hh, reachStep, settleSteps_of_atRest _ _ _ h, h']

/-- A delivery takes the frame at the head of the FIFO. -/
theorem deliver_head (k : NoticeKind) (f : RxFrame → State → State) (s : State) (fr : RxFrame) (rest : List RxFrame)
    (ha : s.active = true) (hp : s.dispatcher.paused = false) (hf : s.dispatcher.fifo = fr :: rest) (hk : fr.kind = k) :
    deliver k f s = f fr (s.setDispatcher { s.dispatcher with fifo := rest }) := by
  simp [deliver, ha, hp, hf, hk]

/-! ## A property that every command keeps -/

theorem settleSteps_keeps {P : State → Prop} (h : ∀ d s, s.event.due = some d → P s → P (carryOut d s)) (stop : Option Due) :
    ∀ (n : Nat) (s : State), P s → P (settleSteps stop n s)
  | 0, _, hs => hs
  | n + 1, s, hs => by
    unfold settleSteps
    split
    · exact hs
    · rename_i d hd
      split
      · exact hs
      · exact settleSteps_keeps h stop n _ (h d s hd hs)

/-- A property that due steps keep, and that an arrival's own effect keeps where nothing is held, is kept by the arrival. -/
theorem act_keeps {P : State → Prop} (f : State → State) (s t : State)
    (hc : ∀ d u, u.event.due = some d → P u → P (carryOut d u)) (hf : ∀ u, P u → P (f u)) (h : P s) (e : act f s = .next t) :
    P t := by
  unfold act at e
  split at e
  · cases e; exact h
  · cases e; exact hf _ (settleSteps_keeps hc _ _ _ h)

theorem actDue_keeps {P : State → Prop} (d : Due) (s t : State)
    (hc : ∀ d u, u.event.due = some d → P u → P (carryOut d u)) (h : P s) (e : actDue d s = .next t) : P t := by
  unfold actDue reachStep at e
  split at e
  · cases e; exact h
  · cases e
    have h1 := settleSteps_keeps hc (some d) (settleFuel s) s h
    dsimp only
    split
    · rename_i hd; exact hc d _ hd h1
    · exact h1

/-- What a step of the machine consists of: a property that all of these keep, every command keeps (`StepKeeps.exec`). The
conditions on the due steps and on the arrivals are separate, so each is proved where its block is; what is made in LISTEN and RUN
alone may use that the node is active. -/
structure StepKeeps (P : State → Prop) : Prop where
  bookkeeping : ∀ s w, P s → P (s.setEvent w)
  pins : ∀ s w, P s → P (s.setPins w)
  coldReset : ∀ halt s, P s → P (coldReset halt s)
  taking : ∀ x s, x.isHandover = false → P s → P (reporting (takeOne x) s)
  openEvent : ∀ t s, s.active = true → P s → P (openEvent t s)
  locking : ∀ s, P s → P (s.setBase (lockedBase s.base))
  losing : ∀ s, P s → P (sparksOff (s.setBase (lostBase s.base)))
  generator : ∀ s p d n, P s → (s.locked = false ∨ s.base.freeRun ≠ .stopped) → s.active = true →
    P (s.setBase { s.base with freeRun := .running p d, now := n })
  stamp : ∀ s t, P s → P (s.setBase { s.base with now := t })
  reference : ∀ s t, P s → P (s.setBase { s.base with reference := some t })
  running : ∀ s t i, P s → P (s.setBase { countRun (classify i) s.base with reference := some t })
  judging : ∀ s t i, P s → P (s.setBase (judged (judge (bandInForce s.base) i) t s.base))
  second : ∀ c s, P s → P (reporting (secondStep c) s)
  expiry : ∀ c s, P s → P (reporting (expiryStep c) s)
  flamePresent : ∀ c s, P s → P (reporting (flamePresentStep c) s)
  flameAbsent : ∀ c s, P s → P (reporting (flameAbsentStep c) s)
  ignitionEnd : ∀ c s, P s → P (reporting (ignitionEndStep c) s)
  purgeEnd : ∀ c s, P s → P (reporting (purgeEndStep c) s)
  relightEnd : ∀ c s, P s → P (reporting (relightEndStep c) s)
  holdLimit : ∀ s, P s → P (reporting holdLimitStep s)
  departure : ∀ a s, P s → P (departureStep a s)
  enterRun : ∀ s, P s → P (enterRun s)
  presenceDue : ∀ s, P s → P (presenceDueStep s)
  enterHold : ∀ s, P s → P (enterHold s)
  optionRead : ∀ t b s, P s → s.loader.node = .startUp → P (endOptionRead t b s)
  halt : ∀ s, P s → P (haltEffect s)
  plan : ∀ s, P s → P (completePlan s)
  startPoint : ∀ b s, s.active = true → P s → P (reporting (sparkPoint b) s)
  handover : ∀ c l s, P s → P (s.setHandovers c l)
  elementLevel : ∀ c l s, s.active = true → P s → P (reporting (takeElementLevel c l) s)
  elementLevelInEvent : ∀ c l s, s.active = true → P s → P (reporting (fun u => takeElementLevel c l (takeHanded c u)) s)
  gasLevel : ∀ c l s, s.active = true → P s → P (reporting (takeGasLevel c l) s)
  deferEnd : ∀ q s, P s → P (deferEnd q s)
  char : ∀ ch s, P s → P (takeChar ch s)
  line : ∀ b s, P s → P (senseLine b s)
  gap : ∀ s, P s → P (lineGap s)
  quiet : ∀ s, P s → P (lineQuiet s)
  removed : ∀ s f rest, s.dispatcher.fifo = f :: rest → P s → P (s.setDispatcher { s.dispatcher with fifo := rest })
  presence : ∀ f s, s.active = true → P s → P (reporting (takePresence f) s)
  claim : ∀ f s, s.active = true → P s → P (takeClaim f s)
  release : ∀ f s, s.active = true → P s → P (takeRelease f s)
  spark : ∀ f s, s.active = true → P s → P (takeSpark f s)
  sparkFree : ∀ f s, s.active = true → P s → P (takeSparkFree f s)
  program : ∀ f s, s.active = true → P s → P (takeProgramNotice f s)
  masked : ∀ g f s, (g = startOn ∨ g = holdOn ∨ g = resumeOn ∨ g = stopOn) → s.active = true → P s → P (takeMasked g f s)
  haltAll : ∀ s, s.active = true → P s → P (reporting stopAll s)
  query : ∀ f s, s.active = true → P s → P (takeQuery f s)
  restart : ∀ t f s, s.active = true → P s → P (takeRestart t f s)

namespace StepKeeps
variable {P : State → Prop}

theorem setDue (k : StepKeeps P) (d : Option Due) (s : State) (h : P s) : P (setDue d s) := k.bookkeeping _ _ h
theorem setUntaken (k : StepKeeps P) (xs : List Taking) (s : State) (h : P s) : P (setUntaken xs s) := k.bookkeeping _ _ h

theorem handovers (k : StepKeeps P) (n : ChannelKind) (f : Channel → Nat → State → State)
    (hf : ∀ c l u, u.active = true → P u → P (reporting (f c l) u)) (c : Channel) (s : State) (h : P s) :
    P (reporting (takeHandover n f c) s) := by
  unfold reporting takeHandover
  split
  · rename_i ha
    have ha' : s.active = true := by simp at ha; exact ha.1
    split
    · rw [noteReports_self]; exact h
    · rename_i level rest _
      have := hf c level (s.setHandovers c rest) (by simpa [State.active] using ha') (k.handover c rest s h)
      rwa [reporting, noteReports_setHandovers] at this
  · rw [noteReports_self]; exact h

theorem taken (k : StepKeeps P) (x : Taking) (s : State) (h : P s) : P (reporting (takeOne x) s) := by
  by_cases hx : x.isHandover = false
  · exact k.taking x s hx h
  · cases x <;> simp only [Taking.isHandover, not_true_eq_false] at hx
    rename_i c
    cases hk : s.kind c with
    | unused => simpa [reporting, takeOne, driverHandover, hk, noteReports_self] using h
    | element =>
      simpa [reporting, takeOne, driverHandover, hk] using
        k.handovers _ _ (fun c l u ha hu => k.elementLevelInEvent c l u ha hu) c s h
    | gas =>
      simpa [reporting, takeOne, driverHandover, hk] using k.handovers _ _ (fun c l u ha hu => k.gasLevel c l u ha hu) c s h

theorem resumeTaking (k : StepKeeps P) (xs : List Taking) (s : State) (h : P s) : P (resumeTaking xs s) :=
  resumeTaking_keeps (fun ys u hu => k.setUntaken ys u hu) (fun u hu => k.setDue _ u hu) xs (fun x _ u hu => k.taken x u hu) s h

theorem halfCycleEvent (k : StepKeeps P) (t : Nat) (s : State) (h : P s) : P (halfCycleEvent t s) := by
  unfold Sys2Proof.Machine.halfCycleEvent
  split
  · exact k.resumeTaking _ _ (k.openEvent _ _ (by assumption) h)
  · exact h

theorem lockStep (k : StepKeeps P) (s : State) (h : P s) : P (lockStep s) := by
  unfold Sys2Proof.Machine.lockStep
  dsimp only
  split
  · exact k.locking _ h
  · exact k.halfCycleEvent _ _ (k.locking _ h)

theorem enterLost (k : StepKeeps P) (s : State) (h : P s) : P (enterLost s) := by
  unfold Sys2Proof.Machine.enterLost
  dsimp only
  have h1 := k.losing s h
  have hl : (sparksOff (s.setBase (lostBase s.base))).locked = false := by simp [State.locked, lostBase]
  split
  · rename_i ha
    split
    · exact k.halfCycleEvent _ _ (k.generator _ _ _ _ h1 (Or.inl hl) ha)
    · exact k.generator _ _ _ _ h1 (Or.inl hl) ha
  · exact h1

theorem dueStep (k : StepKeeps P) (d : Due) (s : State) (h : P s) : P (dueStep d s) := by
  cases d <;> simp only [Sys2Proof.Machine.dueStep]
  · exact k.lockStep _ h
  · exact k.enterLost _ h
  · exact k.second _ _ h
  · exact k.expiry _ _ h
  · exact k.flamePresent _ _ h
  · exact k.flameAbsent _ _ h
  · exact k.ignitionEnd _ _ h
  · exact k.purgeEnd _ _ h
  · exact k.relightEnd _ _ h
  · exact k.holdLimit _ h
  · exact k.departure _ _ h
  · exact k.enterRun _ h
  · exact k.presenceDue _ h

theorem carryOut (k : StepKeeps P) (d : Due) (s : State) (h : P s) : P (carryOut d s) := by
  unfold Sys2Proof.Machine.carryOut goOn
  have h1 := k.dueStep d _ (k.setDue none s h)
  split
  · exact k.resumeTaking _ _ h1
  · exact h1

theorem act (k : StepKeeps P) (f : State → State) (hf : ∀ u, P u → P (f u)) (s t : State) (h : P s)
    (e : act f s = .next t) : P t :=
  act_keeps f s t (fun d u _ hu => k.carryOut d u hu) hf h e

theorem actDue (k : StepKeeps P) (d : Due) (s t : State) (h : P s) (e : actDue d s = .next t) : P t :=
  actDue_keeps d s t (fun d u _ hu => k.carryOut d u hu) h e

theorem deliver (k : StepKeeps P) (n : NoticeKind) (f : RxFrame → State → State) (hf : ∀ fr u, u.active = true → P u → P (f fr u))
    (s : State) (h : P s) : P (deliver n f s) := by
  unfold Sys2Proof.Machine.deliver
  split
  · rename_i ha
    have ha' : s.active = true := by simp at ha; exact ha.1
    split
    · exact h
    · rename_i fr rest e
      split
      · exact hf _ _ ha' (k.removed _ _ _ e h)
      · exact h
  · exact h

theorem withInputs (k : StepKeeps P) (inp : EventInputs) (s : State) (h : P s) : P (withInputs inp s) :=
  k.line _ _ (k.bookkeeping _ _ (k.pins _ _ h))

theorem endTaking (k : StepKeeps P) (s : State) (h : P s) : P (endTaking s) := by
  unfold Sys2Proof.Machine.endTaking
  split
  · exact k.setDue _ _ h
  · exact h

theorem crossing (k : StepKeeps P) (t : Nat) (s : State) (h : P s) : P (takeCrossing t s) := by
  unfold takeCrossing
  dsimp only
  have h1 := k.stamp _ t (k.pins s { s.pins with zeroCross := !s.pins.zeroCross } h)
  split
  · exact k.reference _ _ h1
  · split
    · unfold lockedCrossing
      dsimp only
      refine k.endTaking _ ?_
      split
      · exact k.judging _ _ _ h1
      · exact k.halfCycleEvent _ _ (k.judging _ _ _ h1)
    · unfold seekCrossing
      dsimp only
      split
      · exact k.setDue _ _ (k.running _ _ _ h1)
      · exact k.running _ _ _ h1

theorem timeout (k : StepKeeps P) (s : State) (h : P s) : P (takeTimeout s) := by
  unfold takeTimeout
  split
  · exact h
  · split
    · exact k.enterLost _ (k.stamp _ _ h)
    · exact h

theorem chars (k : StepKeeps P) (l : List Byte) (s : State) (h : P s) : P (takeChars l s) := by
  unfold takeChars
  induction l generalizing s with
  | nil => exact h
  | cons b bs ih => exact ih _ (k.char _ _ h)

theorem freeRun (k : StepKeeps P) (s : State) (h : P s) : P (takeFreeRun s) := by
  unfold takeFreeRun
  split
  · exact h
  · rename_i p d e
    split
    · rename_i ha
      exact k.halfCycleEvent _ _ (k.generator _ _ _ _ h (Or.inr (by rw [e]; simp)) ha)
    · exact h

/-- Every command keeps a property that all the pieces of `StepKeeps` keep. -/
theorem exec (k : StepKeeps P) (c : Instr) (s t : State) (h : P s) (e : exec c s = .next t) : P t := by
  cases c <;> simp only [Sys2Proof.Machine.exec] at e
  case coldReset supply halt =>
    unfold execColdReset at e
    split at e <;> cases e
    · exact k.coldReset _ _ h
    · exact h
  case supplyLow v =>
    refine k.act (takeSupplyLow v) (fun u hu => ?_) s t h e
    unfold takeSupplyLow
    split
    · exact k.enterHold _ hu
    · exact hu
  case optionReadComplete m b =>
    refine k.act (takeOptionRead m b) (fun u hu => ?_) s t h e
    unfold takeOptionRead
    split
    · rename_i hc; exact k.optionRead _ _ _ hu hc.1
    · exact hu
  case crossing m inp => exact k.act _ (fun u hu => k.crossing m _ (k.withInputs inp u hu)) s t h e
  case lock => exact k.actDue _ s t h e
  case badRunLost => exact k.actDue _ s t h e
  case lockTimeout inp => exact k.act _ (fun u hu => k.timeout _ (k.withInputs inp u hu)) s t h e
  case freeRunDue inp =>
    refine k.act _ (fun u hu => ?_) s t h e
    exact k.freeRun _ (k.withInputs inp u hu)
  case planComputationComplete => exact k.act _ (fun u hu => k.plan u hu) s t h e
  case secondComplete c => exact k.actDue _ s t h e
  case stageExpiry c => exact k.actDue _ s t h e
  case flameDebouncePresent c => exact k.actDue _ s t h e
  case flameDebounceAbsent c => exact k.actDue _ s t h e
  case ignitionWindowEnd c => exact k.actDue _ s t h e
  case purgeEnd c => exact k.actDue _ s t h e
  case relightWindowEnd c => exact k.actDue _ s t h e
  case holdLimit => exact k.actDue _ s t h e
  case sparkStartPoint p =>
    refine k.act _ (fun u hu => ?_) s t h e
    split
    · unfold takeStartPoint
      split
      · rename_i ha
        have ha' : u.active = true := by simp at ha; exact ha.1
        exact k.startPoint _ _ ha' (k.bookkeeping _ _ (k.pins _ _ hu))
      · exact hu
    · exact hu
  case silenceDeparture a => exact k.actDue _ s t h e
  case listenCountEnd => exact k.actDue _ s t h e
  case presenceCountDue => exact k.actDue _ s t h e
  case frameStart p =>
    refine k.act _ (fun u hu => ?_) s t h e
    split
    · refine k.deferEnd _ _ ?_
      split
      · exact k.line false u hu
      · exact hu
    · exact hu
  case frameReceived l => exact k.act _ (fun u hu => k.chars l u hu) s t h e
  case rxGapTimeout => exact k.act _ (fun u hu => k.gap u hu) s t h e
  case resyncQuiet => exact k.act _ (fun u hu => k.quiet u hu) s t h e
  case transmitAbort ch =>
    refine k.act (echoMismatch ch) (fun u hu => ?_) s t h e
    unfold echoMismatch
    split
    · exact hu
    · split
      · exact hu
      · exact k.char _ _ hu
  case presence => exact k.act _ (fun u hu => k.deliver _ _ (fun f v ha hv => k.presence f v ha hv) u hu) s t h e
  case claim => exact k.act _ (fun u hu => k.deliver _ _ (fun f v ha hv => k.claim f v ha hv) u hu) s t h e
  case release => exact k.act _ (fun u hu => k.deliver _ _ (fun f v ha hv => k.release f v ha hv) u hu) s t h e
  case spark => exact k.act _ (fun u hu => k.deliver _ _ (fun f v ha hv => k.spark f v ha hv) u hu) s t h e
  case sparkFree => exact k.act _ (fun u hu => k.deliver _ _ (fun f v ha hv => k.sparkFree f v ha hv) u hu) s t h e
  case program => exact k.act _ (fun u hu => k.deliver _ _ (fun f v ha hv => k.program f v ha hv) u hu) s t h e
  case start => exact k.act _ (fun u hu => k.deliver _ _ (fun f v ha hv => k.masked _ f v (by simp) ha hv) u hu) s t h e
  case hold => exact k.act _ (fun u hu => k.deliver _ _ (fun f v ha hv => k.masked _ f v (by simp) ha hv) u hu) s t h e
  case resume => exact k.act _ (fun u hu => k.deliver _ _ (fun f v ha hv => k.masked _ f v (by simp) ha hv) u hu) s t h e
  case stop => exact k.act _ (fun u hu => k.deliver _ _ (fun f v ha hv => k.masked _ f v (by simp) ha hv) u hu) s t h e
  case haltAll => exact k.act _ (fun u hu => k.deliver _ _ (fun _ v ha hv => k.haltAll v ha hv) u hu) s t h e
  case query => exact k.act _ (fun u hu => k.deliver _ _ (fun f v ha hv => k.query f v ha hv) u hu) s t h e
  case restart m => exact k.act _ (fun u hu => k.deliver _ _ (fun f v ha hv => k.restart m f v ha hv) u hu) s t h e
  case state => exact k.act _ (fun u hu => k.deliver _ _ (fun _ _ _ hv => hv) u hu) s t h e
  case counts => exact k.act _ (fun u hu => k.deliver _ _ (fun _ _ _ hv => hv) u hu) s t h e
  case haltAssertion =>
    refine k.act takeHalt (fun u hu => ?_) s t h e
    unfold takeHalt
    split
    · exact hu
    · exact k.halt _ (k.pins _ _ hu)
  case haltInputRelease => exact k.act takeHaltRelease (fun u hu => k.pins _ _ hu) s t h e
  case elementHandover c => exact k.act _ (fun u hu => k.handovers _ _ (fun c l v ha hv => k.elementLevel c l v ha hv) c u hu) s t h e
  case gasHandover c => exact k.act _ (fun u hu => k.handovers _ _ (fun c l v ha hv => k.gasLevel c l v ha hv) c u hu) s t h e
  case opener => exact k.act _ (fun u hu => k.char _ u hu) s t h e
  case framingError b => exact k.act _ (fun u hu => k.char _ u hu) s t h e

/-- Every step keeps such a property. -/
theorem step (k : StepKeeps P) (hq : ∀ s q, P s → P (s.setPending q)) (s t : State) (h : P s) (e : step s = .next t) :
    P t := by
  unfold Sys2Proof.Machine.step at e
  split at e
  · exact k.act lineRests (fun u hu => k.line false u hu) s t h e
  · exact k.exec _ _ t (hq _ _ h) e

end StepKeeps

end Sys2Proof.Machine
end

