-- ==== Sys2Proof/WellFormed.lean ====
section
/-!
DEFINITION. WellFormed.lean: which commands can come from outside. The meanings are total on every command; these are the
shapes the hardware can produce.
-/

namespace Sys2Proof

/-- The option block has seventeen bytes (R168). -/
def optionBlockFits (block : List Byte) : Bool := block.length == 17

/-- What follows an opener is a header, a length, at most 16 body characters and two check characters (R134); a frame that is
cut short at its header is discarded there (R135), so at least one character is taken. -/
def frameCharsFit (chars : List Byte) : Bool := 1 ≤ chars.length && chars.length ≤ 20

/-- The order operand of an event names no taking twice but hand-overs, of which several levels can be on their way (log 1, log 13). -/
def orderFits (inp : EventInputs) : Bool := decide (inp.order.filter fun x => !x.isHandover).Nodup

/-- Which commands the outside can give. -/
def Instr.wellFormed : Instr → Bool
  | .optionReadComplete _ block => optionBlockFits block
  | .frameReceived chars => frameCharsFit chars
  | .crossing _ inp => orderFits inp
  | .lockTimeout inp => orderFits inp
  | .freeRunDue inp => orderFits inp
  | .coldReset _ _ | .supplyLow _ | .lock | .badRunLost | .planComputationComplete | .secondComplete _ | .stageExpiry _
  | .flameDebouncePresent _ | .flameDebounceAbsent _ | .ignitionWindowEnd _ | .purgeEnd _ | .relightWindowEnd _ | .holdLimit
  | .sparkStartPoint _ | .silenceDeparture _ | .listenCountEnd | .presenceCountDue | .frameStart _ | .rxGapTimeout
  | .resyncQuiet | .transmitAbort _ | .presence | .claim | .release | .spark | .sparkFree | .program | .start | .hold
  | .resume | .stop | .haltAll | .query | .restart _ | .state | .counts | .haltAssertion | .haltInputRelease
  | .elementHandover _ | .gasHandover _ | .opener | .framingError _ => true

end Sys2Proof
end

