-- ==== Sys2Proof/Tests/Slice0.lean ====
section
/-!
SUPPORT. Tests/Slice0.lean: the model's own tests: the ill-formed commands, the spec's worked examples, one step of each command, and
for every statement with hypotheses a state that meets them.
-/

namespace Sys2Proof.Tests

open Sys2Proof.Machine

set_option Elab.async false

/-! ## Small states -/

/-- The option block of section 11.8. -/
def ovenBlock : List Byte := [2, 0x41, 40, 4, 5, 2, 0x21, 7, 0x25, 0x25, 1, 0, 16, 12, 1, 0, 0xFA]

/-- The options of that block with B = 32 and channel 1 a GAS channel. -/
def options : Options :=
  { readOptions ovenBlock with
    bCode := 0
    channels := #v[{ kind := .element, cls := 2, demandUsed := true, current := 16 }, { ChannelOptions.reset with kind := .gas },
      { kind := .element, cls := 0, demandUsed := false, current := 1 }, ChannelOptions.reset] }

/-- A node in RUN, locked at 50 Hz, at phase 5. -/
def run : State :=
  { State.reset with
    base := { TimeBase.reset with lock := .lock50, band := some .f50, reference := some 0, lastEvent := some 0, phase := 5 }
    plan := { LoadPlan.reset with budget := 40 }
    loader := { OptionLoader.reset with node := .run, reading := false, options := options, supplyCode := 1 } }

/-- The node in LISTEN. -/
def listen : State := run.setLoader { run.loader with node := .listen }

/-- The node in START-UP, its option read in flight. -/
def startUp : State := State.reset

/-- The node at phase `p`. -/
def atPhase (p : Nat) : State := run.setBase { run.base with phase := p }

/-- The node in SEEK, its free-run generator running. -/
def seeking (n : Nat) : State :=
  run.setBase { run.base with
    lock := .seek, band := none, runBand := some .f50, runLength := n, freeRun := .running 60000 70000, lastEvent := none }

/-- The node locked with a bad run. -/
def bad (n : Nat) : State := run.setBase { run.base with badRun := n }

/-- The node under a supply-low hold. -/
def held : State := run.setLoader { run.loader with held := true }

/-- A frame from station `a`, unmarked. -/
def frame (a : Station) (k : NoticeKind) (body : List Byte) : RxFrame :=
  { source := a, kind := k, body := body, own := false, openerPhase := 5 }

/-- A state with one frame in its FIFO. -/
def with1 (f : RxFrame) (s : State) : State := s.setDispatcher { fifo := [f], paused := false }

/-- A state in which the step `d` is due. -/
def due (d : Due) (s : State) : State := s.setEvent { s.event with due := some d }

/-- The node with its gas channel in a heat state. -/
def gasIn (h : GasHeat) (w : Option Countdown) : State :=
  run.setGas 1 { GasSequencer.reset with heat := h, level := 6, attempts := 0, countdown := w }

/-- The node with its gas channel in a heat state at the head of the queue, before the start point. -/
def headIn (h : GasHeat) (flame : Bool) : State :=
  (((gasIn h none).setGas 1 { (gasIn h none).gas[1] with flame := flame }).setArbiter
    { SparkArbiter.reset with queue := [⟨2, 1⟩], dwell := 7 }).setEvent { run.event with startPoint := true }

/-- The node with its first channel in an element heat state. -/
def elementIn (h : ElementHeat) : State :=
  run.setElement 0 { heat := h, level := 4, claim := some ⟨16, 8, 2⟩, demand := true, relay := false }

/-- A stage that keeps 300 s of heat at level 4. -/
def stage (a : EndAction) : Stage := { level := 4, duration := 300, basis := .wall, action := a }

/-- A program of two stages on channel 0. -/
def programIn (p : ProgramState) (a : EndAction) (elapsed : Nat) : State :=
  run.setProgram 0
    { Program.reset with
      state := p, stageCount := 2, stages := #v[some (stage a), some (stage .off), none, none, none, none], elapsed := elapsed }

/-- What the events of these tests bring. -/
def inputs : EventInputs := { sense := #v[false, false, false, false], lineBusy := false, order := [] }

/-- The command ends in a next state that has the property. -/
def gives (o : Host.Outcome State Fault Refusal) (p : State → Bool) : Bool :=
  match o with
  | .next t => p t
  | .fault _ => false
  | .refused _ => false

/-- A command tested at the front of the queue of `s`: the step's next state has the property, and the queue is empty again. -/
def does (c : Instr) (s : State) (p : State → Bool) : Bool :=
  gives (step (s.setPending [c])) fun t => p t && t.pending.isEmpty

/-! ## Ill-formed commands -/

theorem test_short_option_block_is_ill_formed : (Instr.optionReadComplete 0 (ovenBlock.take 16)).wellFormed = false := by decide
theorem test_no_character_is_ill_formed : (Instr.frameReceived []).wellFormed = false := by decide
theorem test_doubled_taking_is_ill_formed : (Instr.crossing 0 { inputs with order := [.swap, .swap] }).wellFormed = false := by
  decide
theorem test_event_inputs_are_well_formed :
    (Instr.freeRunDue { inputs with order := [.swap, .handover 1, .dwell, .handover 1] }).wellFormed = true := by decide

/-! ## Worked examples of the spec -/

theorem test_check_value_of_the_crc : crcOf [0x31, 0x32, 0x33, 0x34, 0x35, 0x36, 0x37, 0x38, 0x39] = 0x29B1 := by
  decide +kernel

theorem test_scan_groups : (scanOrder 5).take 9 = [0, 16, 8, 24, 4, 20, 12, 28, 2] := by decide +kernel

/-- The table of section 4.8 with the grill at `grill` slots. -/
def kitchen (grill : Nat) : List ClaimEntry :=
  [⟨⟨2, 2⟩, 1, 32, 0, true⟩, ⟨⟨3, 0⟩, 24, grill, 1, true⟩, ⟨⟨2, 0⟩, 16, 24, 2, true⟩, ⟨⟨2, 1⟩, 12, 16, 2, true⟩]

theorem test_plan_A_places_all : (computeMap 5 42 (kitchen 8)).map Placement.placed = [true, true, true, true] := by
  decide +kernel
theorem test_plan_B_drops_the_last : (computeMap 5 42 (kitchen 24)).map Placement.placed = [true, true, true, false] := by
  decide +kernel

theorem test_oven_block_passes : blockPasses ovenBlock = true ∧ blockPasses (ovenBlock.set 12 48) = false := by
  decide +kernel

/-- The own PRESENCE of section 9.7. -/
theorem test_presence_body_of_the_example :
    presenceBody
      { run with
        base := { run.base with phase := 17 }
        peers := { PeerTable.reset with budgetDiffers := true }
        elements := #v[⟨.claiming, 16, some ⟨16, 64, 2⟩, true, false⟩, ElementDriver.reset, ⟨.admitted, 16, some ⟨1, 64, 0⟩, true, true⟩,
          ElementDriver.reset]
        loader := { run.loader with options := readOptions ovenBlock } } =
      [0x11, 0x41, 0x11, 0x28, 0x25, 0x10, 0x40, 1, 0, 0, 5, 1, 0x40, 0, 0, 0] := by
  decide +kernel

/-! ## The hypotheses of the statements are met: the machine and the node -/

theorem test_met_queue : ({ run with pending := [.lock, .claim] } : State).pending = .lock :: [.claim] ∧ run.pending = [] ∧
    run.ready ∧ held.loader.held = true ∧ run.loader.held = false := by decide

theorem test_met_supply : run.ready ∧ 2600 + 200 * run.loader.supplyCode = 2800 ∧ 2799 < 2600 + 200 * run.loader.supplyCode ∧
    held.loader.held = true ∧ 2700 + 200 * held.loader.supplyCode = 2900 ∧ 2700 + 200 * held.loader.supplyCode < 2901 := by decide

theorem test_met_cold_reset : (2600 + 200 * held.loader.supplyCode) + 100 < 2901 ∧ run.loader.held = false ∧ 2600 + 100 < 2701 := by
  decide

theorem test_met_restart : (with1 (frame 9 .restart [2]) run).delivers .restart (frame 9 .restart [2]) [] ∧
    targetOf [2] = run.loader.options.address.val ∧ targetOf [3] ≠ run.loader.options.address.val ∧
    (with1 (frame 9 .restart [3]) run).delivers .restart (frame 9 .restart [3]) [] := by decide

theorem test_met_option_read : startUp.ready ∧ startUp.loader.node = .startUp ∧ startUp.loader.reading = true ∧
    blockPasses ovenBlock = true ∧ blockPasses (ovenBlock.set 12 48) = false ∧ run.ready ∧ run.loader.node ≠ .startUp ∧
    startUp.base.lock = .seek ∧ (run.setLoader startUp.loader).locked = true ∧ (run.setLoader startUp.loader).ready := by
  decide +kernel

theorem test_met_option_read_lost :
    let s := (startUp.setBase { startUp.base with lock := .lost, band := some .f60, tickRate := 120 })
    s.ready ∧ s.loader.node = .startUp ∧ s.loader.reading = true ∧ s.base.lock = .lost ∧ s.base.band = some .f60 := by decide

theorem test_met_burst : run.loader.options.bCode = 0 ∧ (readOptions ovenBlock).bCode = 1 ∧
    (readOptions (ovenBlock.set 1 0x42)).bCode = 2 := by decide

theorem test_met_option_check : ovenBlock.length = 17 ∧ (ovenBlock.take 16).length ≠ 17 := by decide

/-! ## The time base -/

theorem test_met_unlocked_crossing : startUp.ready ∧ startUp.base.reference = none ∧ (seeking 15).ready ∧
    (seeking 15).base.reference = some 0 ∧ (seeking 15).locked = false ∧ classify (64800 - 0) = some .f50 ∧
    classify (64801 - 0) = none ∧ classify (54000 - 0) = some .f60 := by decide

theorem test_met_same_class : (seeking 15).ready ∧ (seeking 15).locked = false ∧ (seeking 15).base.reference = some 0 ∧
    classify (64800 - 0) = classify (64800 - 9600) := by decide

theorem test_met_locked_crossing : (bad 2).ready ∧ (bad 2).locked = true ∧ (bad 2).base.reference = some 0 ∧
    (bad 2).active = true ∧ 55199 - 0 < 55200 ∧ 3 ≤ (bad 2).base.badRun + 1 ∧
    (run.setLoader startUp.loader).ready ∧ (run.setLoader startUp.loader).locked = true ∧
    (run.setLoader startUp.loader).base.reference = some 0 ∧ (run.setLoader startUp.loader).active = false := by decide

theorem test_met_lock : (due .lock (seeking 16)).dueNow .lock ∧ (seeking 16).base.runBand = some .f50 ∧
    (due .lock (seeking 16)).active = true ∧ (seeking 16).base.lastEvent = none ∧
    (let s := due .lock ((seeking 16).setBase { (seeking 16).base with lastEvent := some 29999, now := 59998 })
     s.dueNow .lock ∧ s.base.runBand = some .f50 ∧ s.base.lastEvent = some 29999 ∧ s.base.now - 29999 < 30000) := by decide

theorem test_met_lost : (due .badRunLost (bad 3)).dueNow .badRunLost ∧ (due .badRunLost (bad 3)).active = true ∧
    (bad 3).base.now < ((bad 3).base.lastEvent.or (bad 3).base.reference).getD (bad 3).base.now + 60000 ∧
    (let s := due .badRunLost ((bad 3).setBase { (bad 3).base with now := 60000 })
     s.dueNow .badRunLost ∧ (s.base.lastEvent.or s.base.reference).getD s.base.now + 60000 ≤ s.base.now) ∧
    (due .badRunLost ((bad 3).setLoader startUp.loader)).active = false := by decide

theorem test_met_timeout_before_the_next_period :
    let s := run.setBase { run.base with lastEvent := some 50000 }
    s.ready ∧ s.active = true ∧ s.rateFits ∧ s.base.reference = some 0 ∧ s.base.lastEvent = some 50000 ∧
    0 + 60000 + 60000 / 2 < 50000 + 60000 := by
  unfold State.rateFits; decide

theorem test_met_timeout : run.ready ∧ run.base.reference = some 0 ∧ run.locked = true ∧ run.active = true ∧ run.rateFits ∧
    run.base.lastEvent = some 0 ∧ (seeking 0).ready ∧ (seeking 0).locked = false ∧
    (run.setLoader startUp.loader).active = false := by
  unfold State.rateFits; decide

theorem test_met_free_run : (seeking 0).ready ∧ (seeking 0).base.freeRun = .running 60000 70000 ∧ (seeking 0).active = true ∧
    run.ready ∧ run.base.freeRun = .stopped := by decide

theorem test_met_time_base_laws : run.rateFits ∧ run.generatorFits ∧ run.phaseFits ∧ run.eventFits ∧
    (seeking 3).rateFits ∧ (seeking 3).generatorFits := by
  unfold State.rateFits State.generatorFits State.phaseFits State.eventFits; decide

theorem test_met_order : ([Taking.swap, .handover 1, .dwell, .handover 1].filter fun x => !x.isHandover).Nodup ∧
    .handover 0 ∉ [Taking.swap, .handover 1, .dwell, .handover 1] ∧ ∀ c, Taking.handover c ∉ inputs.order := by decide

/-- States that meet the clauses on an event's takings: an event that may be taken, none in START-UP, a taking that leaves nothing
due and one that makes a step due, and a due step with nothing left of its event. -/
theorem test_met_event : run.active = true ∧ run.plan.planning = none ∧ startUp.active = false ∧ run.event.due = none ∧
    (takeOne .swap run).event.due = none ∧
    ((run.setPlan { run.plan with planning := some ([], 40) }).active = true ∧
      (run.setPlan { run.plan with planning := some ([], 40) }).plan.planning = some ([], 40)) ∧
    (let s := { listen with base := { listen.base with phase := 0 }, loader := { listen.loader with listenCount := 7 } }
     (takeOne .listen s).event.due = some .listenEnd) ∧
    ∀ d ∈ [Due.lock, .badRunLost, .secondComplete 0, .stageExpiry 0, .flamePresent 1, .flameAbsent 1, .ignitionEnd 1, .purgeEnd 1,
      .relightEnd 1, .holdLimit, .departure 3, .listenEnd, .presenceDue], (due d run).dueNow d ∧ (due d run).event.untaken = [] := by
  decide

/-- A step due beside the command of another, and what no delivery, hand-over or defer's end finds (R61, R139, R175). -/
theorem test_met_other_due_and_no_delivery :
    (due (.secondComplete 0) run).dueNow (.secondComplete 0) ∧ Due.secondComplete 0 ≠ .holdLimit ∧
    Instr.haltAssertion ≠ stepCommand .holdLimit ∧ run.loader.held = false ∧ run.event.due = none ∧
    startUp.ready ∧ startUp.active = false ∧ run.dispatcher.fifo = [] ∧ run.arbiter.queue = [] ∧
    (let s := with1 (frame 9 .haltAll []) run
     (s.setDispatcher { s.dispatcher with paused := true }).ready ∧ (frame 9 .haltAll []).kind ≠ .query ∧
     gives (exec .haltAll (s.setDispatcher { s.dispatcher with paused := true })) (fun t => t.dispatcher.fifo.length == 1) = true) := by
  decide +kernel

/-- The Arbiter's taking at one event short of the hold limit and at one before (R100). -/
theorem test_met_dwell :
    let at_ := fun n => takeOne .dwell (run.setArbiter { SparkArbiter.reset with queue := [⟨3, 3⟩], dwell := n })
    (at_ 998).event.due = none ∧ (at_ 999).event.due = some .holdLimit ∧ (at_ 998).arbiter.dwell = 999 := by decide

/-! ## Programs -/

/-- A PROGRAM for channel 0 of node 2: stage `i` of `n`, limit 0, level 4, `d` seconds, WALL and NEXT. -/
def programBody (i n d : Nat) : List Byte := [2, 0, byteOf (i * 16 + n), 0, 4, byteOf (d / 256), byteOf d, 0]

/-- That PROGRAM at the head of the FIFO. -/
def withProgram (i n d : Nat) (s : State) : State := with1 (frame 9 .program (programBody i n d)) s

theorem test_met_program : (withProgram 0 2 300 run).delivers .program (frame 9 .program (programBody 0 2 300)) [] ∧
    targetOf (programBody 0 2 300) = run.loader.options.address.val ∧
    (readProgram (programBody 0 2 300)).channel = (0 : Channel).val ∧ run.inRun = true ∧ run.used 0 = true ∧
    carriesStage (run.kind 0) (readProgram (programBody 0 2 300)) (stage .next) ∧
    carriesStage (run.kind 0) (readProgram (programBody 0 6 65534)) { stage .next with duration := 65534 } ∧
    (withProgram 0 2 300 run).programs[(0 : Channel)].state = .empty ∧
    (programIn .ready .next 0).programs[(0 : Channel)].state = .ready ∧
    (programIn .ended .next 0).programs[(0 : Channel)].state = .ended := by decide +kernel

theorem test_met_program_refused : (readProgram [2, 4, 2, 0, 4, 0, 1, 0]).channel = 4 ∧ run.used 3 = false ∧ listen.inRun = false ∧
    carriesFault (run.kind 0) (readProgram (programBody 2 2 300)) ∧ carriesFault (run.kind 0) (readProgram (programBody 0 2 65535)) ∧
    carriesFault (run.kind 0) (readProgram (programBody 0 7 1)) ∧
    (with1 (frame 9 .program [2, 4, 2, 0, 4, 0, 1, 0]) run).delivers .program (frame 9 .program [2, 4, 2, 0, 4, 0, 1, 0]) [] := by
  decide +kernel

theorem test_met_edit :
    let s := withProgram 0 2 300 (programIn .running .next 300)
    s.delivers .program (frame 9 .program (programBody 0 2 300)) [] ∧ s.inRun = true ∧ s.used 0 = true ∧
    s.programs[(0 : Channel)].state = .running ∧ (readProgram (programBody 0 2 300)).index = s.programs[(0 : Channel)].index ∧
    (stage .next).duration ≤ s.programs[(0 : Channel)].elapsed ∧
    s.programs[(0 : Channel)].repeatsDone ≤ (readProgram (programBody 0 2 300)).limit ∧
    (programIn .running .next 299).programs[(0 : Channel)].elapsed < (stage .next).duration ∧
    (readProgram (programBody 1 2 300)).index ≠ s.programs[(0 : Channel)].index := by decide +kernel

theorem test_met_edit_refused :
    let p := { (programIn .held .next 0).programs[(0 : Channel)] with index := 1, repeatsDone := 1 }
    let s := withProgram 0 1 300 ((programIn .held .next 0).setProgram 0 p)
    s.delivers .program (frame 9 .program (programBody 0 1 300)) [] ∧ (readProgram (programBody 0 1 300)).count ≤ p.index ∧
    (readProgram (programBody 0 1 300)).limit < p.repeatsDone ∧ s.programs[(0 : Channel)].state = .held ∧
    carriesStage (s.kind 0) (readProgram (programBody 0 1 300)) (stage .next) := by decide +kernel

/-- An edit of the stage being timed to level 9 and 7 s at 8 s elapsed (R28): its level is handed, then that of the next stage. -/
theorem test_edit_hands_its_level_and_the_next :
    gives (exec .program (with1 (frame 9 .program [2, 0, 0x02, 0, 9, 0, 7, 0]) (programIn .running .keep 8)))
      (fun t => t.handovers[(0 : Channel)] == [9, 4] && t.programs[(0 : Channel)].index == 1) = true := by decide +kernel

/-- A masked command for channels 0, 1 and 3 at the head of the FIFO. -/
def withMask (k : NoticeKind) (s : State) : State := with1 (frame 9 k [2, 0x0B]) s

theorem test_met_start : let s := withMask .start (programIn .ready .next 0)
    s.delivers .start (frame 9 .start [2, 0x0B]) [] ∧ targetOf [2, 0x0B] = s.loader.options.address.val ∧
    maskNames [2, 0x0B] 0 = true ∧ maskNames [2, 0x0B] 1 = true ∧ maskNames [2, 0x0B] 2 = false ∧ s.used 0 = true ∧
    s.inRun = true ∧ s.programs[(0 : Channel)].state = .ready ∧ s.pins.halt = false ∧ s.kind 0 ≠ .gas ∧
    (∀ k : Fin 6, k.val < s.programs[(0 : Channel)].stageCount → s.programs[(0 : Channel)].stages[k].isSome = true) ∧
    s.programs[(1 : Channel)].state = .empty := by decide +kernel

theorem test_met_hold_resume_stop :
    (withMask .hold (programIn .running .next 7)).delivers .hold (frame 9 .hold [2, 0x0B]) [] ∧
    (withMask .resume (programIn .held .next 7)).delivers .resume (frame 9 .resume [2, 0x0B]) [] ∧
    (withMask .stop (gasIn .lockout none)).delivers .stop (frame 9 .stop [2, 0x0B]) [] ∧
    targetOf [2, 0x0B] = run.loader.options.address.val ∧ maskNames [2, 0x0B] 0 = true ∧ maskNames [2, 0x0B] 2 = false ∧
    maskNames [2, 0x0B] 3 = true ∧ run.used 3 = false ∧ run.used 0 = true ∧ run.inRun = true := by decide

theorem test_met_stop_lockout :
    let s := withMask .stop ((gasIn .lockout none).setProgram 1 { Program.reset with state := .ended, fault := .ignitionLockout })
    s.delivers .stop (frame 9 .stop [2, 0x0B]) [] ∧ maskNames [2, 0x0B] 1 = true ∧ s.used 1 = true ∧ s.inRun = true ∧
    s.kind 1 = .gas ∧ s.gas[(1 : Channel)].heat = .lockout ∧ s.programs[(1 : Channel)].state ≠ .empty := by decide

theorem test_met_halt : (with1 (frame 9 .haltAll []) run).delivers .haltAll (frame 9 .haltAll []) [] ∧ run.ready ∧
    run.pins.halt = false ∧ run.active = true ∧ listen.active = true ∧ startUp.ready ∧ startUp.pins.halt = false ∧
    startUp.active = false ∧ (run.setPins { run.pins with halt := true }).ready := by decide

theorem test_met_query : (with1 (frame 9 .query [2]) run).delivers .query (frame 9 .query [2]) [] ∧
    targetOf [2] = run.loader.options.address.val ∧
    (with1 (frame 9 .state []) run).delivers .state (frame 9 .state []) [] ∧
    (with1 (frame 9 .counts []) run).delivers .counts (frame 9 .counts []) [] := by decide

theorem test_met_other_target : targetOf [3, 0x0B] ≠ run.loader.options.address.val ∧
    ∀ k : NoticeKind, (with1 (frame 9 k [3]) run).delivers k (frame 9 k [3]) [] :=
  ⟨by decide, fun k => by cases k <;> decide⟩

theorem test_met_count : let s := programIn .running .next 65533
    s.used 0 = true ∧ s.programs[(0 : Channel)].alert = false ∧ currentStage s.programs[(0 : Channel)] = some (stage .next) ∧
    (stage .next).basis = .wall ∧ run.programs[(0 : Channel)].state ≠ .running := by decide

theorem test_met_second :
    let s := due (.secondComplete 0) (programIn .running .next 299)
    let u := due (.secondComplete 0) (programIn .running .next 29)
    s.dueNow (.secondComplete 0) ∧ currentStage s.programs[(0 : Channel)] = some (stage .next) ∧
    s.programs[(0 : Channel)].elapsed + 1 = (stage .next).duration ∧ u.dueNow (.secondComplete 0) ∧
    (u.programs[(0 : Channel)].elapsed + 1) % 30 = 0 ∧ (28 + 1) % 30 ≠ 0 ∧ u.programs[(0 : Channel)].elapsed + 1 ≠ (stage .next).duration := by decide

theorem test_met_expiry : ∀ a : EndAction,
    let s := due (.stageExpiry 0) (programIn .running a 300)
    s.dueNow (.stageExpiry 0) ∧ currentStage s.programs[(0 : Channel)] = some (stage a) ∧
    s.programs[(0 : Channel)].index + 1 < s.programs[(0 : Channel)].stageCount ∧
    s.programs[(0 : Channel)].stages[s.programs[(0 : Channel)].index + 1]? = some (some (stage .off)) ∧
    s.programs[(0 : Channel)].repeatLimit ≤ s.programs[(0 : Channel)].repeatsDone ∧
    s.programs[(0 : Channel)].state = .running ∧ s.programs[(0 : Channel)].alert = false := by
  intro a; cases a <;> decide

theorem test_met_expiry_repeats_left :
    let p := { (programIn .running .again 300).programs[(0 : Channel)] with repeatLimit := 1, stageCount := 1 }
    p.repeatsDone < p.repeatLimit ∧ ¬ p.index + 1 < p.stageCount := by decide

/-! ## The claim table and the plan -/

theorem test_met_claim :
    let f := frame 3 .claim [0x12, 24, 32]
    let n := readClaim f.body
    (with1 f run).delivers .claim f [] ∧ n.channel = (1 : Channel).val ∧ n.cls ≤ 3 ∧ 1 ≤ n.current ∧ n.current ≤ 250 ∧ 1 ≤ n.slots ∧
    n.slots = run.burst ∧ run.isOwn f.source = false ∧ ¬ (readClaim [0x12, 24, 33]).slots ≤ run.burst ∧
    (⟨3, 1⟩ : Key).station.val = f.source.val ∧ 8 ≤ (frame 8 .claim []).source.val := by decide +kernel

theorem test_met_own_claim :
    let f := { frame 2 .claim [0x02, 16, 8] with own := true }
    let s := with1 f run
    let k : Key := ⟨2, 0⟩
    s.delivers .claim f [] ∧ s.isOwn f.source = true ∧ f.own = true ∧ s.kind k.channel = .element ∧
    asksClaim s.elements[k.channel].heat = false ∧
    findEntry k (putEntry k ⟨16, 8, 2⟩ s.plan.table) ≠ findEntry k s.plan.table := by decide +kernel

theorem test_met_release :
    let f := frame 3 .release [3]
    (with1 f run).delivers .release f [] ∧ (⟨3, 3⟩ : Key).station.val = f.source.val ∧
    (⟨3, 3⟩ : Key).channel.val = (charAt f.body 0).toNat ∧ run.isOwn f.source = false ∧ 4 ≤ (charAt [4] 0).toNat ∧
    (with1 (frame 3 .release [4]) run).delivers .release (frame 3 .release [4]) [] := by decide +kernel

theorem test_met_order_of_entries : (kitchen 8).Pairwise (fun a b => entryBefore a b = true) := by decide

theorem test_met_block_laws : (run.setPlan { run.plan with table := kitchen 8 }).tableOrdered ∧
    (headIn .waitSpark false).queueUnique ∧ run.countersBounded ∧ run.fifoBounded ∧ run.wishesFit := by
  unfold State.tableOrdered State.queueUnique State.countersBounded State.fifoBounded State.wishesFit; decide

theorem test_met_placement : 1 ≤ 23 ∧ 32 ≤ 2 ^ 5 ∧ kitchen 8 = ⟨⟨2, 2⟩, 1, 32, 0, true⟩ :: (kitchen 8).tail ∧
    ((kitchen 8).zip (computeMap 5 23 (kitchen 8))).map (fun er => (decide (23 < er.1.current), er.2.placed)) =
      [(false, true), (true, false), (false, true), (false, false)] ∧
    kitchen 8 = (kitchen 8).take 2 ++ ⟨⟨2, 0⟩, 16, 24, 2, true⟩ :: (kitchen 8).drop 3 := by decide +kernel

theorem test_met_plan :
    let s := (atPhase 31).setPlan { run.plan with planning := some (kitchen 8, 40) }
    s.base.phase + 1 = s.burst ∧ run.base.phase + 1 ≠ run.burst ∧ s.ready ∧ s.plan.planning = some (kitchen 8, 40) ∧
    run.ready ∧ run.plan.planning = none := by decide

theorem test_met_swap : (atPhase 0).base.phase = 0 ∧ (atPhase 0).event.swapped = false ∧ run.base.phase ≠ 0 ∧
    (atPhase 0).kind 0 = .element ∧ (atPhase 0).kind 1 ≠ .element ∧
    placedSlots [⟨⟨2, 0⟩, true, [0]⟩] ⟨2, 0⟩ = some [0] ∧ placedSlots [⟨⟨2, 0⟩, false, []⟩] ⟨2, 0⟩ = none ∧
    findEntry ⟨2, 0⟩ (kitchen 8) = some ⟨⟨2, 0⟩, 16, 24, 2, true⟩ ∧ findEntry ⟨7, 0⟩ (kitchen 8) = none := by decide

/-- Records that fit: a stage timed to its last second but one, its second due, and its expiry due. -/
theorem test_met_records :
    (programIn .running .next 299).recordsFit ∧ (due (.secondComplete 0) (programIn .running .keep 299)).recordsFit ∧
    (due (.stageExpiry 0) (programIn .running .again 300)).recordsFit ∧ startUp.recordsFit := by
  unfold State.recordsFit recordFits timeLeft stageFits
  refine ⟨⟨?_, ?_, ?_, ?_, ?_, ?_⟩, ⟨?_, ?_, ?_, ?_, ?_, ?_⟩, ⟨?_, ?_, ?_, ?_, ?_, ?_⟩, ?_, ?_, ?_, ?_, ?_, ?_⟩ <;> decide

/-! ## Element channels -/

theorem test_met_result :
    let s := (elementIn .claiming).setEvent
      { run.event with swapped := true, results := #v[some .shed, none, some .admitted, some .stays] }
    s.event.swapped = true ∧ s.event.results[(0 : Channel)] = some .shed ∧ s.event.results[(1 : Channel)] = none ∧
    s.event.results[(2 : Channel)] = some .admitted ∧ s.event.results[(3 : Channel)] = some .stays ∧
    asksClaim s.elements[(0 : Channel)].heat = true ∧ asksClaim s.elements[(2 : Channel)].heat = false ∧
    (s.setHandovers 0 [0]).active = true ∧ (s.setHandovers 0 [0]).handovers[(0 : Channel)] ≠ [] ∧ s.kind 0 = .element := by decide

theorem test_met_element_handover : ∀ h : ElementHeat,
    let s := (elementIn h).setHandovers 0 [0, 16]
    s.ready ∧ s.active = true ∧ s.kind 0 = .element ∧ s.handovers[(0 : Channel)] = [0, 16] ∧ s.elements[(0 : Channel)].heat = h ∧
    16 ≠ s.elements[(0 : Channel)].level ∧ s.kind 1 ≠ .element ∧ s.loader.held = false ∧ s.event.due = none ∧ s.kind 3 = .unused ∧
    s.event.results[(0 : Channel)] = none := by
  intro h; cases h <;> decide

theorem test_met_element_demand :
    let e := { (elementIn .off).elements[(0 : Channel)] with demand := false }
    run.loader.options.channels[(0 : Channel)].demandUsed = true ∧ e.demand = false ∧ e.heat = .off ∧
    run.loader.options.channels[(2 : Channel)].demandUsed = false := by decide

theorem test_met_sample : ∀ h : ElementHeat, ∀ active : Bool,
    let s := ((elementIn h).setBase (atPhase 0).base).setPins { run.pins with sense := #v[active, false, false, false] }
    s.base.phase = 0 ∧ s.kind 0 = .element ∧ s.loader.options.channels[(0 : Channel)].demandUsed = true ∧
    s.pins.sense[(0 : Channel)] = active ∧ s.elements[(0 : Channel)].heat = h ∧ run.base.phase ≠ 0 ∧
    s.event.results[(0 : Channel)] = none ∧ (takeSwap s).event.swapped = true ∧ (takeSwap s).base.phase = 0 := by
  intro h active; cases h <;> cases active <;> decide

/-- Swap and demand sample of one burst start in either order (R70): an ADMITTED channel whose key is not placed again is shed where the
swap comes first, and where the inactive sample comes first it is not. -/
theorem test_swap_and_sample_in_either_order :
    let s := elementIn .admitted
    let s := s.setBase (atPhase 31).base
    does (.crossing 60000 { inputs with order := [.swap, .sample 0] }) s
      (fun t => t.elements[(0 : Channel)].heat == .satisfied && t.counters.sheds == 1) = true ∧
    does (.crossing 60000 { inputs with order := [.sample 0, .swap] }) s
      (fun t => t.elements[(0 : Channel)].heat == .satisfied && t.counters.sheds == 0) = true := by decide +kernel

/-! ## Gas channels and the spark -/

theorem test_met_gas_handover : ∀ h : GasHeat,
    let s := (gasIn h none).setHandovers 1 [0, 6]
    s.ready ∧ s.active = true ∧ s.kind 1 = .gas ∧ s.handovers[(1 : Channel)] = [0, 6] ∧ s.gas[(1 : Channel)].heat = h ∧
    s.kind 0 ≠ .gas := by
  intro h; cases h <;> decide

theorem test_met_start_point : ∀ (h : GasHeat) (flame : Bool),
    let s := headIn h flame
    s.ready ∧ s.active = true ∧ s.event.startPoint = true ∧ s.arbiter.queue.head? = some (s.ownKey 1) ∧ s.kind 1 = .gas ∧
    s.inRun = true ∧ s.locked = true ∧ s.asked (.ofChannel .sparkFree 1) = false ∧
    s.arbiter.freeOutstanding[(1 : Channel)] = false ∧ s.gas[(1 : Channel)].flame = flame ∧ s.gas[(1 : Channel)].heat = h ∧
    s.gas[(1 : Channel)].spark = false ∧ run.event.startPoint = false ∧
    8 = 4 + 2 * ((s.loader.options.address.val + 16 - s.base.eventPhase % 16) % 16) := by
  intro h flame; cases h <;> cases flame <;> decide

theorem test_met_start_point_of_another :
    let s := (headIn .waitSpark false).setArbiter { SparkArbiter.reset with queue := [⟨3, 1⟩] }
    s.ready ∧ s.event.startPoint = true ∧ ∀ d : Channel, ¬ (s.arbiter.queue.head? = some (s.ownKey d) ∧ s.kind d = .gas) := by
  decide

theorem test_met_flame_sample : ∀ flame : Bool,
    let g := { GasSequencer.reset with heat := .ignite, flame := flame, run := if flame then 1 else 3, countdown := some ⟨.ignition, 1⟩ }
    let s := (run.setGas 1 g).setPins { run.pins with sense := #v[false, !flame, false, false] }
    s.kind 1 = .gas ∧ s.pins.sense[(1 : Channel)] ≠ g.flame ∧ (if g.flame then 2 else 4) = g.run + 1 ∧
    g.countdown = some ⟨.ignition, 1⟩ ∧ ¬ (if g.flame then 2 else 4) ≤ 0 + 1 := by
  intro flame; cases flame <;> decide

theorem test_met_flame_change : ∀ h : GasHeat,
    let w : Option Countdown := match h with
      | .ignite => some ⟨.ignition, 1⟩
      | .purge => some ⟨.purge, 1⟩
      | .relightWait | .relightSpark => some ⟨.relight, 1⟩
      | .off | .waitSpark | .proven | .lockout => none
    let s := due (.flamePresent 1) (gasIn h w)
    let u := due (.flameAbsent 1) (gasIn h w)
    s.dueNow (.flamePresent 1) ∧ s.gas[(1 : Channel)].countdown = w ∧ s.countdownsFit ∧ s.gas[(1 : Channel)].heat = h ∧ s.kind 1 = .gas ∧
    u.dueNow (.flameAbsent 1) ∧ u.countdownsFit := by
  intro h; unfold State.countdownsFit; cases h <;> decide

theorem test_met_window_ends :
    let s := due (.ignitionEnd 1) (gasIn .ignite (some ⟨.ignition, 0⟩))
    let u := due (.purgeEnd 1) (gasIn .purge (some ⟨.purge, 0⟩))
    let v := due (.relightEnd 1) (gasIn .relightWait (some ⟨.relight, 0⟩))
    s.dueNow (.ignitionEnd 1) ∧ s.gas[(1 : Channel)].heat = .ignite ∧
    s.gas[(1 : Channel)].attempts + 1 < s.loader.options.attempts ∧ s.loader.options.attempts ≤ 1 + 1 ∧
    ((gasIn .ignite none).setGas 1 { GasSequencer.reset with heat := .ignite, attempts := 1 }).gas[(1 : Channel)].attempts = 1 ∧
    u.dueNow (.purgeEnd 1) ∧ u.gas[(1 : Channel)].heat = .purge ∧ v.dueNow (.relightEnd 1) ∧
    v.gas[(1 : Channel)].heat = .relightWait := by decide +kernel

theorem test_met_hold_limit : ∀ h : GasHeat,
    let s := due .holdLimit (headIn h false)
    s.dueNow .holdLimit ∧ s.arbiter.queue = [⟨2, 1⟩] ∧ s.queueUnique ∧ (⟨2, 1⟩ : Key).station = s.loader.options.address ∧
    s.kind 1 = .gas ∧ s.gas[(1 : Channel)].heat = h := by
  intro h; unfold State.queueUnique; cases h <;> decide

theorem test_met_hold_limit_of_another :
    let s := due .holdLimit ((headIn .ignite false).setArbiter { SparkArbiter.reset with queue := [⟨3, 1⟩, ⟨2, 1⟩] })
    s.dueNow .holdLimit ∧ s.arbiter.queue = [⟨3, 1⟩, ⟨2, 1⟩] ∧ s.queueUnique ∧
    (⟨3, 1⟩ : Key).station ≠ s.loader.options.address := by
  unfold State.queueUnique; decide

theorem test_met_spark_notices : ∀ k : NoticeKind,
    (with1 (frame 3 k [3]) run).delivers k (frame 3 k [3]) [] ∧ (⟨3, 3⟩ : Key).station.val = (frame 3 k [3]).source.val ∧
    (⟨3, 3⟩ : Key).channel.val = (charAt (frame 3 k [3]).body 0).toNat ∧ run.isOwn (frame 3 k [3]).source = false ∧
    (with1 (frame 2 k [1]) (headIn .waitSpark false)).delivers k (frame 2 k [1]) [] ∧
    (headIn .waitSpark false).arbiter.queue.head? = some ⟨2, 1⟩ ∧ wantsSpark (headIn .waitSpark false).gas[(1 : Channel)].heat = true ∧
    (headIn .waitSpark false).arbiter.queue.head? ≠ some ⟨3, 3⟩ ∧
    wantsSpark run.gas[(1 : Channel)].heat = false ∧ run.kind 1 = .gas ∧ 4 ≤ (charAt [4] 0).toNat := by
  intro k; cases k <;> decide

theorem test_met_guards : (gasIn .off none).outputsSafe ∧ (gasIn .ignite (some ⟨.ignition, 5⟩)).countdownsFit ∧
    (run.setGas 1 { GasSequencer.reset with heat := .proven, valve := true }).outputsSafe := by
  unfold State.outputsSafe State.valvesGuarded State.sparksGuarded State.relaysGuarded State.countdownsFit; decide

/-! ## Peers, presence and the line -/

/-- A node's PRESENCE body: phase 9, P 8, B code 0, budget 36, channel 0 claiming, channel 1 a queued gas channel. -/
def presence : List Byte := [9, 0x80, 1, 36, 0x25, 16, 32, 0x42, 0, 0, 1, 0, 0, 0, 0, 0]

theorem test_met_presence :
    let s := with1 (frame 1 .presence presence) run
    s.delivers .presence (frame 1 .presence presence) [] ∧ s.isOwn 1 = false ∧ presenceInterval presence = 8 ∧
    ((presencePhase presence : Int) - (5 : Nat)) % s.burst ≠ 0 ∧ ((5 : Nat) - (5 : Nat) : Int) % s.burst = 0 ∧
    (readSummary presence 0).kindField = 1 ∧ (readSummary presence 0).claimed = true ∧
    (readSummary presence 0).slots = s.burst ∧ (readSummary presence 1).queued = true ∧
    (with1 (frame 8 .presence []) run).delivers .presence (frame 8 .presence []) [] ∧ run.isOwn 8 = false := by decide +kernel

theorem test_met_own_presence :
    let f := { frame 2 .presence (List.replicate 16 0) with own := true }
    let s := with1 f (headIn .relightWait false)
    s.delivers .presence f [] ∧ s.isOwn f.source = true ∧ f.own = true ∧ s.kind 1 = .gas ∧ ⟨2, 1⟩ ∈ s.arbiter.queue ∧
    (readSummary f.body 1).queued = false ∧ s.gas[(1 : Channel)].heat = .relightWait := by decide +kernel

/-- The own PRESENCE's effects on the own channels each have a case: an attempt fails with attempts left and with none, a relight
falls back, a key appended asks for its removal, an entry inserted for an idle channel asks for its release. -/
theorem test_met_own_presence_effects :
    let own := fun b (s : State) => with1 { frame 2 .presence b with own := true } s
    let none16 := List.replicate 16 (0 : Byte)
    let last := (headIn .ignite false).setGas 1 { (headIn .ignite false).gas[1] with attempts := run.loader.options.attempts - 1 }
    (0 < run.loader.options.attempts ∧ (headIn .ignite false).gas[(1 : Channel)].attempts + 1 < run.loader.options.attempts) ∧
    gives (exec .presence (own none16 (headIn .ignite false))) (fun t => t.gas[(1 : Channel)].heat == .purge) = true ∧
    gives (exec .presence (own none16 last)) (fun t => t.gas[(1 : Channel)].heat == .lockout) = true ∧
    gives (exec .presence (own none16 (headIn .relightSpark false))) (fun t => t.gas[(1 : Channel)].heat == .relightWait) = true ∧
    gives (exec .presence (own presence (gasIn .proven none))) (fun t => t.asked (.ofChannel .sparkFree 1) &&
      t.asked (.ofChannel .release 0) && t.arbiter.queue == [⟨2, 1⟩]) = true := by decide +kernel

/-- A change of a heat state is reported, and a state without a change reports nothing (R161). -/
theorem test_reports :
    (noteReports run (elementIn .claiming)).asked (.ofChannel .state 0) = true ∧ noteReports run run = run := by decide +kernel

/-- The node at a burst start with station 1 present and its countdown at `n`. -/
def withPeer (n : Nat) : State := setRecord 1 ⟨true, n, some 36, some 0, some 4⟩ (atPhase 0)

theorem test_met_phase_source : sourceOf (withPeer 1) = some 1 ∧ (withPeer 1).base.phase = 0 ∧
    (withPeer 1).peers.records[(1 : Station)].present = true ∧ run.peers.records[(1 : Station)].present = false ∧
    (due (.departure 1) (withPeer 0)).dueNow (.departure 1) ∧
    (due (.departure 15) run).dueNow (.departure 15) := by decide +kernel

theorem test_met_listen_and_presence_count :
    (listen.setBase (atPhase 0).base).loader.node = .listen ∧ (atPhase 0).inRun = true ∧ (atPhase 0).base.phase = 0 ∧
    run.base.phase ≠ 0 ∧ (due .listenEnd listen).dueNow .listenEnd ∧ (due .presenceDue run).dueNow .presenceDue ∧
run.used 0 = true := by decide

/-- The node with its receiver in a state. -/
def receiving (r : ReceiverState) (s : State) : State := s.setReceiver { s.receiver with state := r, taken := [], openerPhase := 5 }

theorem test_met_receiver : ∀ r : ReceiverState,
    (receiving r run).ready ∧ (receiving r run).active = true ∧ sending (receiving r run) = none ∧
    (receiving r run).receiver.state = r ∧ startUp.ready ∧ startUp.active = false := by
  intro r; cases r <;> decide

theorem test_met_built_frame : ∀ k : NoticeKind, (List.replicate (bodyLength k 9) (0 : Byte)).length = bodyLength k (9 : Station).val ∧
    (receiving .frame run).receiver.taken = [] ∧ run.isOwn 9 = false ∧ run.isOwn 2 = true ∧ run.dispatcher.fifo.length < 4 ∧
    (0x1F : Byte).toNat % 16 = 15 ∧ (17 : Byte).toNat ≠ (List.replicate (bodyLength k 9) (0 : Byte)).length := by
  intro k; cases k <;> decide

/-- A frame whose characters come over two commands, the cut inside it and before its last character (R135). -/
theorem test_met_frame_in_parts :
    let tail := (buildFrame 9 .haltAll []).tail
    let cut := fun n => (receiving .frame run).setReceiver { (receiving .frame run).receiver with taken := tail.take n }
    (∀ n < 4, (cut n).ready ∧ (cut n).active = true ∧ sending (cut n) = none ∧ (cut n).receiver.state = .frame ∧
      (cut n).receiver.taken ++ (tail.drop n ++ []) = tail ∧ tail.drop n ≠ []) ∧
    (cut 1).receiver.taken ++ ([tail.getD 1 0] ++ tail.drop 2) = tail ∧ ([] : List Byte).length = bodyLength .haltAll 9 ∧
    gives (exec (.frameReceived (tail.drop 3)) (cut 3)) (fun t => t.dispatcher.fifo.map RxFrame.openerPhase == [5]) = true := by
  decide +kernel

/-- A full FIFO. -/
theorem test_met_full_fifo :
    4 ≤ (receiving .frame (run.setDispatcher ⟨List.replicate 4 (frame 9 .haltAll []), false⟩)).dispatcher.fifo.length := by decide

/-- The node sending: its COUNTS selected, `n` characters sent. -/
def sendingCounts (n : Nat) : State :=
  run.setTx { run.tx with counts := ⟨true, 3⟩, selection := some (selectionOf run .counts), sent := some n }

theorem test_met_own_frame :
    let x := selectionOf run .counts
    (sendingCounts 0).ready ∧ (sendingCounts 0).active = true ∧ (sendingCounts 0).tx.selection = some x ∧
    x.frame = buildFrame 2 .counts (countsBody Counters.reset) ∧ (countsBody Counters.reset).length = bodyLength .counts 2 ∧
    (sendingCounts 0).tx.sent = some 0 ∧ (sendingCounts 0).receiver.state = .hunt ∧
    (receiving .frame (sendingCounts 1)).tx.sent = some 1 ∧ (receiving .frame (sendingCounts 1)).receiver.taken = [] ∧
    (sendingCounts 1).dispatcher.fifo.length < 4 ∧ x.frame[1]? = some 0x2D := by decide +kernel

theorem test_met_frame_start :
    let s := run.setTx { run.tx with counts := ⟨true, 3⟩, selection := some (selectionOf run .counts) }
    s.ready ∧ s.active = true ∧ s.tx.selection.isSome = true ∧ s.tx.sent = none ∧ s.receiver.busySince = false ∧
    s.receiver.state = .hunt ∧ s.inRun = true ∧ s.tx.attempted = false ∧
    8 = 4 + 2 * ((s.loader.options.address.val + 16 - s.base.eventPhase % 16) % 16) ∧
    run.tx.selection = none ∧ sending run = none := by decide +kernel

/-- A body's cases: an unused and a used channel, a program that runs and one that does not. -/
theorem test_met_bodies :
    run.used 3 = false ∧ run.used 0 = true ∧ run.programs[(0 : Channel)].state = .empty ∧
    (programIn .running .keep 0).programs[(0 : Channel)].state = .running ∧
    currentStage (programIn .running .keep 0).programs[(0 : Channel)] = some (stage .keep) ∧ run.kind 0 = .element ∧
    run.kind 1 = .gas := by decide

theorem test_met_selection :
    let s := raiseFlag .counts (raiseFlag .presence run)
    s.inRun = true ∧ s.tx.sent = none ∧ s.asked .presence = true ∧ requestRank .presence < requestRank .counts ∧
    (∀ r, run.asked r = false) := by
  refine ⟨by decide, by decide, by decide, by decide, fun r => ?_⟩
  cases r with
  | ofChannel k c => cases k <;> revert c <;> decide
  | haltAll | presence | counts => rfl

/-! ## One step of each command -/

theorem test_cold_reset : does (.coldReset 2901 true) held (fun t => t.loader.node == .startUp && t.pins.halt) = true := by
  decide +kernel
theorem test_supply_low : does (.supplyLow 2799) run (fun t => t.loader.held) = true := by decide +kernel
theorem test_option_read_complete : does (.optionReadComplete 9 ovenBlock) startUp
    (fun t => t.loader.node == .listen && t.base.freeRun == .running 60000 60009 && t.plan.budget == 40) = true := by
  decide +kernel
theorem test_crossing : does (.crossing 60000 inputs) run
    (fun t => t.base.phase == 6 && t.base.reference == some 60000 && t.base.badRun == 0) = true := by decide +kernel
theorem test_lock : does .lock (due .lock (seeking 16)) (fun t => t.base.lock == .lock50 && t.base.phase == 6) = true := by
  decide +kernel
theorem test_bad_run_lost : does .badRunLost (due .badRunLost (bad 3)) (fun t => t.base.lock == .lost) = true := by decide +kernel
theorem test_lock_timeout : does (.lockTimeout inputs) run
    (fun t => t.base.lock == .lost && t.base.phase == 6 && t.base.now == 90000) = true := by decide +kernel
theorem test_free_run_due : does (.freeRunDue inputs) (seeking 0)
    (fun t => t.base.phase == 6 && t.base.freeRun == .running 60000 130000) = true := by decide +kernel
theorem test_plan_computation_complete :
    does .planComputationComplete (run.setPlan { run.plan with planning := some (kitchen 24, 42) })
      (fun t => t.plan.computed && t.plan.next.map Placement.placed == [true, true, true, false]) = true := by decide +kernel
theorem test_second_complete : does (.secondComplete 0) (due (.secondComplete 0) (programIn .running .next 299))
    (fun t => t.event.due == some (.stageExpiry 0)) = true := by decide +kernel
theorem test_stage_expiry : does (.stageExpiry 0) (due (.stageExpiry 0) (programIn .running .next 300))
    (fun t => t.programs[(0 : Channel)].index == 1 && t.asked (.ofChannel .state 0)) = true := by decide +kernel
theorem test_flame_debounce_present : does (.flameDebouncePresent 1) (due (.flamePresent 1) (gasIn .ignite (some ⟨.ignition, 9⟩)))
    (fun t => t.gas[(1 : Channel)].heat == .proven && t.gas[(1 : Channel)].step == 6) = true := by decide +kernel
theorem test_flame_debounce_absent : does (.flameDebounceAbsent 1) (due (.flameAbsent 1) (gasIn .proven none))
    (fun t => t.gas[(1 : Channel)].heat == .relightWait && t.gas[(1 : Channel)].countdown == some ⟨.relight, 200⟩) = true := by
  decide +kernel
theorem test_ignition_window_end : does (.ignitionWindowEnd 1) (due (.ignitionEnd 1) (gasIn .ignite (some ⟨.ignition, 0⟩)))
    (fun t => t.gas[(1 : Channel)].heat == .purge && t.counters.ignitionFails == 1) = true := by decide +kernel
theorem test_purge_end : does (.purgeEnd 1) (due (.purgeEnd 1) (gasIn .purge (some ⟨.purge, 0⟩)))
    (fun t => t.gas[(1 : Channel)].heat == .waitSpark && t.asked (.ofChannel .spark 1)) = true := by decide +kernel
theorem test_relight_window_end : does (.relightWindowEnd 1) (due (.relightEnd 1) (gasIn .relightWait (some ⟨.relight, 0⟩)))
    (fun t => t.gas[(1 : Channel)].heat == .lockout) = true := by decide +kernel
theorem test_hold_limit : does .holdLimit (due .holdLimit (headIn .ignite false))
    (fun t => t.arbiter.queue == [] && t.gas[(1 : Channel)].heat == .purge && t.counters.sparkConflicts == 1) = true := by
  decide +kernel
theorem test_spark_start_point : does (.sparkStartPoint { bits := 8, busy := false }) (headIn .waitSpark false)
    (fun t => t.gas[(1 : Channel)].heat == .ignite && t.sparkEnable && t.outputA 1) = true := by decide +kernel
theorem test_silence_departure : does (.silenceDeparture 1) (due (.departure 1) ((withPeer 0).setPlan ⟨kitchen 8, 36, [], [], false, none⟩))
    (fun t => t.plan.budget == 40 && !t.peers.records[(1 : Station)].present) = true := by decide +kernel
theorem test_listen_count_end : does .listenCountEnd (due .listenEnd listen)
    (fun t => t.loader.node == .run && t.asked .presence && t.asked (.ofChannel .state 2)) = true := by decide +kernel
theorem test_presence_count_due : does .presenceCountDue (due .presenceDue run) (fun t => t.asked .presence) = true := by
  decide +kernel
theorem test_frame_start : does (.frameStart { bits := 8, quiet := true }) (run.setTx { run.tx with selection := some (selectionOf run .haltAll) })
    (fun t => t.lineDriven) = true := by decide +kernel
/-- The quiet test (R143): a first character since the event with no dominant level in its last two bits may have been over before it; an
indication that was busy at the event ends the half-cycle's attempt. -/
theorem test_quiet_test :
    let s := run.setTx { run.tx with selection := some (selectionOf run .haltAll) }
    does (.frameStart { bits := 8, quiet := true }) (takeChar ⟨0xFE, false⟩ s) (fun t => t.lineDriven) = true ∧
    does (.frameStart { bits := 8, quiet := true }) (takeChar ⟨0x3F, false⟩ s) (fun t => !t.lineDriven && !t.receiver.lineBusy) = true ∧
    does (.frameStart { bits := 8, quiet := true }) (senseLine true s)
      (fun t => t.tx.selection.isNone && !t.lineDriven && !t.receiver.lineBusy) = true := by
  decide +kernel
theorem test_frame_received : does (.frameReceived (buildFrame 9 .start [2, 1]).tail) (receiving .frame run)
    (fun t => t.dispatcher.fifo == [frame 9 .start [2, 1]] && t.receiver.state == .hunt) = true := by decide +kernel
theorem test_rx_gap_timeout : does .rxGapTimeout (receiving .frame run)
    (fun t => t.receiver.state == .hunt && t.counters.checkErrors == 1) = true := by decide +kernel
theorem test_resync_quiet : does .resyncQuiet (receiving .resync run) (fun t => t.receiver.state == .hunt) = true := by decide +kernel
theorem test_transmit_abort : does (.transmitAbort ⟨0xC2, false⟩) (sendingCounts 0)
    (fun t => t.counters.collisions == 1 && !t.lineDriven && t.asked .counts) = true := by decide +kernel
theorem test_presence : does .presence (with1 (frame 1 .presence presence) run)
    (fun t => t.base.phase == 9 && t.plan.budget == 36 && t.arbiter.queue == [⟨1, 1⟩] && t.plan.table.length == 1 &&
      t.counters.phaseAdjusts == 1) = true := by decide +kernel
theorem test_claim : does .claim (with1 (frame 3 .claim [0x12, 24, 32]) run)
    (fun t => t.plan.table == [⟨⟨3, 1⟩, 24, 32, 2, false⟩]) = true := by decide +kernel
theorem test_release : does .release (with1 (frame 3 .release [0]) (run.setPlan { run.plan with table := kitchen 8 }))
    (fun t => t.plan.table.length == 3) = true := by decide +kernel
theorem test_spark : does .spark (with1 (frame 3 .spark [1]) (headIn .waitSpark false))
    (fun t => t.arbiter.queue == [⟨2, 1⟩, ⟨3, 1⟩] && t.arbiter.dwell == 7) = true := by decide +kernel
theorem test_spark_free : does .sparkFree (with1 (frame 2 .sparkFree [1]) (headIn .waitSpark false))
    (fun t => t.arbiter.queue == [] && t.gas[(1 : Channel)].heat == .waitSpark) = true := by decide +kernel
theorem test_program : does .program (withProgram 0 2 300 run)
    (fun t => t.programs[(0 : Channel)].state == .ready && t.programs[(0 : Channel)].stages[0] == some (stage .next)) = true := by
  decide +kernel
theorem test_start : does .start (withMask .start (programIn .ready .next 0))
    (fun t => t.programs[(0 : Channel)].state == .running && t.handovers[(0 : Channel)] == [4] &&
      t.programs[(1 : Channel)].refused) = true := by decide +kernel
theorem test_hold : does .hold (withMask .hold (programIn .running .next 7))
    (fun t => t.programs[(0 : Channel)].state == .held && t.handovers[(0 : Channel)] == [0]) = true := by decide +kernel
theorem test_resume : does .resume (withMask .resume (programIn .held .next 7))
    (fun t => t.programs[(0 : Channel)].state == .running && t.programs[(0 : Channel)].elapsed == 7) = true := by decide +kernel
theorem test_stop : does .stop (withMask .stop (programIn .running .next 7))
    (fun t => t.programs[(0 : Channel)].state == .ended && t.programs[(3 : Channel)].refused) = true := by decide +kernel
theorem test_halt_all : does .haltAll (with1 (frame 9 .haltAll []) (programIn .running .next 7))
    (fun t => t.programs[(0 : Channel)].state == .ended && !t.programs[(3 : Channel)].refused) = true := by decide +kernel
theorem test_query : does .query (with1 (frame 9 .query [2]) run) (fun t => t.asked .counts) = true := by decide +kernel
theorem test_restart : does (.restart 500) (with1 (frame 9 .restart [2]) run)
    (fun t => t.loader.node == .listen && t.base.freeRun == .running 60000 60500 && t.loader.options == options &&
      t.gas[(1 : Channel)].latched == 1) = true := by
  decide +kernel
theorem test_state : does .state (with1 (frame 4 .state []) run) (fun t => t == run) = true := by decide +kernel
theorem test_counts : does .counts (with1 (frame 4 .counts []) run) (fun t => t == run) = true := by decide +kernel
theorem test_halt_assertion : does .haltAssertion (programIn .running .next 7)
    (fun t => t.programs[(0 : Channel)].state == .ended && t.asked .haltAll && t.pins.halt) = true := by decide +kernel
theorem test_halt_input_release : does .haltInputRelease (run.setPins { run.pins with halt := true }) (fun t => t == run) = true := by
  decide +kernel
theorem test_element_handover : does (.elementHandover 0) (run.setHandovers 0 [8])
    (fun t => t.elements[(0 : Channel)].heat == .claiming && t.elements[(0 : Channel)].claim == some ⟨16, 16, 2⟩ &&
      t.asked (.ofChannel .claim 0)) = true := by decide +kernel
theorem test_gas_handover : does (.gasHandover 1) (run.setHandovers 1 [9])
    (fun t => t.gas[(1 : Channel)].heat == .waitSpark && t.asked (.ofChannel .spark 1)) = true := by decide +kernel
/-- A level 0 on its way that meets a half-cycle event (R116): taken among the event's takings where the order says so, else left for
GAS_HANDOVER. -/
theorem test_handover_inside_the_event :
    let s := (gasIn .ignite (some ⟨.ignition, 9⟩)).setHandovers 1 [0]
    does (.crossing 60000 { inputs with order := [.handover 1, .flame 1] }) s
      (fun t => t.gas[(1 : Channel)].heat == .off && t.handovers[(1 : Channel)] == []) = true ∧
    does (.crossing 60000 inputs) s
      (fun t => t.gas[(1 : Channel)].heat == .ignite && t.handovers[(1 : Channel)] == [0]) = true := by decide +kernel
theorem test_opener : does .opener run (fun t => t.receiver.state == .frame && t.receiver.openerPhase == 5) = true := by decide +kernel
theorem test_framing_error : does (.framingError 0) (receiving .frame run)
    (fun t => t.receiver.state == .resync && t.counters.checkErrors == 1) = true := by decide +kernel

end Sys2Proof.Tests
end

section
/-!
PROOF. The interval classes of the time base (R3), and what a crossing in SEEK or LOST keeps of its interval.
-/

namespace Sys2Proof.Machine

/-! ## The interval classes (R3) -/

/-- The two bands have no interval in common, so the class does not depend on which of them is tested first. -/
theorem upperLimit_f60_lt_lowerLimit_f50 : upperLimit .f60 < lowerLimit .f50 := by decide

theorem classify_eq_some_iff (x : Band) (i : Nat) : classify i = some x ↔ lowerLimit x ≤ i ∧ i ≤ upperLimit x := by
  have apart := upperLimit_f60_lt_lowerLimit_f50
  unfold classify within
  cases x <;> grind

theorem forall_band (p : Band → Prop) : (∀ x, p x) ↔ p .f50 ∧ p .f60 :=
  ⟨fun h => ⟨h .f50, h .f60⟩, fun ⟨fifty, sixty⟩ x => match x with | .f50 => fifty | .f60 => sixty⟩

/-- An interval is bad where it is outside both bands. -/
theorem classify_eq_none_iff (i : Nat) :
    classify i = none ↔ ¬ (lowerLimit .f50 ≤ i ∧ i ≤ upperLimit .f50) ∧ ¬ (lowerLimit .f60 ≤ i ∧ i ≤ upperLimit .f60) := by
  simp only [Option.eq_none_iff_forall_ne_some, ne_eq, classify_eq_some_iff, forall_band]

/-- The bounds in the table of R3, in units of 1/6000 ms (log 4). -/
theorem band_limits :
    lowerLimit .f50 = 55200 ∧ upperLimit .f50 = 64800 ∧ lowerLimit .f60 = 45600 ∧ upperLimit .f60 = 54000 := by decide

/-- The table of R3. -/
theorem classify_table (i : Nat) :
    (classify i = some .f50 ↔ 55200 ≤ i ∧ i ≤ 64800) ∧ (classify i = some .f60 ↔ 45600 ≤ i ∧ i ≤ 54000) ∧
    (classify i = none ↔ i < 45600 ∨ (54000 < i ∧ i < 55200) ∨ 64800 < i) := by
  obtain ⟨low50, high50, low60, high60⟩ := band_limits
  refine ⟨?fifty, ?sixty, ?bad⟩
  case fifty => rw [classify_eq_some_iff, low50, high50]
  case sixty => rw [classify_eq_some_iff, low60, high60]
  case bad =>
    rw [classify_eq_none_iff, low50, high50, low60, high60]
    omega

/-! ## What a crossing sets whatever its interval (R1, R2) -/

/-- The crossing toggles the level at the input and brings its moment. -/
def markCrossing (m : Nat) (s : State) : State :=
  (s.setPins { s.pins with zeroCross := !s.pins.zeroCross }).setBase { s.base with now := m }

/-- The state with another reference crossing. -/
def State.withReference (r : Option Nat) (s : State) : State := s.setBase { s.base with reference := r }

theorem senseLine_setBase (busy : Bool) (b : TimeBase) (s : State) :
    senseLine busy (s.setBase b) = (senseLine busy s).setBase b := by
  unfold senseLine
  rw [apply_ite (State.setBase · b)]
  rfl

theorem withInputs_setBase (inp : EventInputs) (b : TimeBase) (s : State) :
    withInputs inp (s.setBase b) = (withInputs inp s).setBase b :=
  senseLine_setBase inp.lineBusy b
    ((s.setPins { s.pins with sense := inp.sense }).setEvent { s.event with order := inp.order })

@[simp] theorem withInputs_base (inp : EventInputs) (s : State) : (withInputs inp s).base = s.base := by
  simp [withInputs]

theorem withInputs_withReference (inp : EventInputs) (r : Option Nat) (s : State) :
    withInputs inp (s.withReference r) = (withInputs inp s).withReference r := by
  rw [State.withReference, withInputs_setBase, State.withReference, withInputs_base]

theorem markCrossing_withReference (m : Nat) (r : Option Nat) (s : State) :
    markCrossing m (s.withReference r) = (markCrossing m s).withReference r := rfl

/-! ## A crossing in SEEK or LOST (R2, R4) -/

theorem takeCrossing_of_unlocked (m r : Nat) (s : State) (unlocked : s.locked = false) (href : s.base.reference = some r) :
    takeCrossing m s = seekCrossing m (m - r) (markCrossing m s) := by
  have marked : (markCrossing m s).locked = false := unlocked
  unfold takeCrossing
  dsimp only
  split
  next noReference => exact absurd (href.symm.trans noReference) (Option.some_ne_none r)
  next r' href' =>
    obtain rfl : r = r' := Option.some.inj (href.symm.trans href')
    exact if_neg (Bool.eq_false_iff.mp marked)

theorem exec_crossing_of_unlocked (m r : Nat) (inp : EventInputs) (s : State) (ready : s.ready) (unlocked : s.locked = false)
    (href : s.base.reference = some r) :
    exec (.crossing m inp) s = .next (seekCrossing m (m - r) (markCrossing m (withInputs inp s))) := by
  obtain ⟨notHeld, nothingDue, -⟩ := ready
  have base := withInputs_base inp s
  calc exec (.crossing m inp) s
      = act (fun u => takeCrossing m (withInputs inp u)) s := rfl
    _ = .next (takeCrossing m (withInputs inp s)) := act_of_atRest _ s notHeld nothingDue
    _ = .next (seekCrossing m (m - r) (markCrossing m (withInputs inp s))) := by
        rw [takeCrossing_of_unlocked m r _ (by rw [State.locked, base]; exact unlocked) (by rw [base]; exact href)]

/-- The run count takes no more of an interval than its class (R3, R4). -/
theorem seekCrossing_eq_of_classify_eq (t : Nat) {i j : Nat} (same : classify i = classify j) (s : State) :
    seekCrossing t i s = seekCrossing t j s := by
  simp only [seekCrossing, same]

theorem countRun_reference (cls : Option Band) (r : Option Nat) (b : TimeBase) :
    countRun cls { b with reference := r } = { countRun cls b with reference := r } := by
  cases cls with
  | none => rfl
  | some x => simp only [countRun]; split <;> rfl

/-- The old reference crossing acts through the interval alone: the crossing becomes the reference (R2). -/
theorem seekCrossing_withReference (t i : Nat) (r : Option Nat) (s : State) :
    seekCrossing t i (s.withReference r) = seekCrossing t i s := by
  simp only [seekCrossing, State.withReference, State.base_setBase, countRun_reference]
  rfl

theorem crossing_eq_of_classify_eq (m r r' : Nat) (inp : EventInputs) (s : State) (ready : s.ready)
    (unlocked : s.locked = false) (href : s.base.reference = some r) (same : classify (m - r) = classify (m - r')) :
    exec (.crossing m inp) s = exec (.crossing m inp) (s.withReference (some r')) := by
  rw [exec_crossing_of_unlocked m r inp s ready unlocked href,
    exec_crossing_of_unlocked m r' inp (s.withReference (some r')) ready unlocked rfl,
    withInputs_withReference, markCrossing_withReference, seekCrossing_withReference,
    seekCrossing_eq_of_classify_eq m same]

/-- Settles O11: the classes are those of the table of R3, and a crossing in SEEK or LOST reads of its interval the class alone. -/
theorem intervalsFallIntoThreeClasses : Obligations.IntervalsFallIntoThreeClasses :=
  ⟨classify_table, crossing_eq_of_classify_eq⟩

end Sys2Proof.Machine
end

section
/-!
PROOF. The scan order of the plan computation (R62): reversing the binary digits is its own inverse within a burst, and short numbers
reverse to multiples.
-/

namespace Sys2Proof.Machine

/-! ## Reversing the binary digits -/

theorem reverseBits_lt (n k : Nat) : reverseBits n k < 2 ^ n := by
  induction n generalizing k with
  | zero => exact Nat.one_pos
  | succ n ih =>
    have low := ih (k / 2)
    have top : k % 2 * 2 ^ n ≤ 1 * 2 ^ n := Nat.mul_le_mul_right _ (Nat.le_of_lt_succ (Nat.mod_lt k Nat.two_pos))
    rw [reverseBits, Nat.pow_succ]
    omega

/-- Each step of `reverseBits` puts the last digit of `k` in front of the reversal of the others. -/
theorem testBit_reverseBits (n k i : Nat) : (reverseBits n k).testBit i = (decide (i < n) && k.testBit (n - 1 - i)) := by
  induction n generalizing k with
  | zero => simp [reverseBits]
  | succ n ih =>
    rw [reverseBits, Nat.mul_comm, Nat.testBit_two_pow_mul_add _ (reverseBits_lt n _)]
    obtain below | rfl | above := Nat.lt_trichotomy i n
    · have digit : n - i = n - 1 - i + 1 := by omega
      simp [below, Nat.lt_succ_of_lt below, ih, digit, Nat.testBit_add_one]
    · simp
    · have digit : k % 2 < 2 ^ (i - n) :=
        (Nat.mod_lt k Nat.two_pos).trans_le (Nat.le_self_pow (Nat.sub_ne_zero_of_lt above) 2)
      have outside : ¬ i < n + 1 := by omega
      simp [above.le, Nat.testBit_lt_two_pow digit, outside]

theorem reverseBits_reverseBits {n k : Nat} (inside : k < 2 ^ n) : reverseBits n (reverseBits n k) = k := by
  apply Nat.eq_of_testBit_eq
  intro i
  rw [testBit_reverseBits, testBit_reverseBits]
  by_cases low : i < n
  case pos =>
    have back : n - 1 - (n - 1 - i) = i := by omega
    have stays : n - 1 - i < n := by omega
    simp [low, back, stays]
  case neg =>
    have noDigit : k.testBit i = false :=
      Nat.testBit_lt_two_pow (inside.trans_le (Nat.pow_le_pow_right Nat.two_pos (Nat.le_of_not_lt low)))
    simp [low, noDigit]

/-- The digits of `k` above its last `m` are 0, so the reversal over `n` digits ends in `n - m` zeros. -/
theorem reverseBits_eq_mul {m n k : Nat} (hmn : m ≤ n) (short : k < 2 ^ m) :
    reverseBits n k = reverseBits m k * 2 ^ (n - m) := by
  apply Nat.eq_of_testBit_eq
  intro i
  rw [Nat.testBit_mul_two_pow, testBit_reverseBits, testBit_reverseBits]
  by_cases low : n - m ≤ i
  case pos =>
    have place : m - 1 - (i - (n - m)) = n - 1 - i := by omega
    have bound : i - (n - m) < m ↔ i < n := by omega
    simp [low, place, bound]
  case neg =>
    have noDigit : k.testBit (n - 1 - i) = false :=
      Nat.testBit_lt_two_pow (short.trans_le (Nat.pow_le_pow_right Nat.two_pos (by omega)))
    simp [low, noDigit]

/-! ## The scan order (R62) -/

theorem getD_scanOrder {n k : Nat} (inside : k < 2 ^ n) : (scanOrder n).getD k 0 = reverseBits n k := by
  simp [scanOrder, inside]

/-- Every phase of the burst appears exactly once: no two candidates are equal, and there are as many as phases. -/
theorem scanOrder_perm_range (n : Nat) : (scanOrder n).Perm (List.range (2 ^ n)) := by
  have once : (scanOrder n).Nodup :=
    List.nodup_range.map_on fun j hj k hk same => by
      rw [← reverseBits_reverseBits (List.mem_range.mp hj), same, reverseBits_reverseBits (List.mem_range.mp hk)]
  have phases : scanOrder n ⊆ List.range (2 ^ n) :=
    List.forall_mem_map.mpr fun k _ => List.mem_range.mpr (reverseBits_lt n k)
  exact (once.subperm phases).perm_of_length_le (by simp [scanOrder])

/-- The first 2^m candidates are those of a burst of 2^m half-cycles, spread over the longer burst. -/
theorem take_scanOrder {m n : Nat} (hmn : m ≤ n) :
    (scanOrder n).take (2 ^ m) = (scanOrder m).map fun j => j * 2 ^ (n - m) := by
  have fits : min (2 ^ m) (2 ^ n) = 2 ^ m := Nat.min_eq_left (Nat.pow_le_pow_right Nat.two_pos hmn)
  rw [scanOrder, ← List.map_take, List.take_range, fits, scanOrder, List.map_map]
  exact List.map_congr_left fun k hk => reverseBits_eq_mul hmn (List.mem_range.mp hk)

theorem take_scanOrder_perm {m n : Nat} (hmn : m ≤ n) :
    ((scanOrder n).take (2 ^ m)).Perm ((List.range (2 ^ m)).map fun j => j * 2 ^ (n - m)) := by
  rw [take_scanOrder hmn]
  exact (scanOrder_perm_range m).map _

/-- The first sixteen of every order are those of a burst of 16, spread; so the columns of R62's table are one list, scaled. -/
theorem take_sixteen_scanOrder {n : Nat} (long : 4 ≤ n) :
    (scanOrder n).take 16 = [0, 8, 4, 12, 2, 10, 6, 14, 1, 9, 5, 13, 3, 11, 7, 15].map
      fun j => j * 2 ^ (n - 4) :=
  take_scanOrder (m := 4) long

theorem testBit_getD_scanOrder {n k i : Nat} (inside : k < 2 ^ n) (digit : i < n) :
    ((scanOrder n).getD k 0).testBit i = k.testBit (n - 1 - i) := by
  rw [getD_scanOrder inside, testBit_reverseBits, decide_eq_true digit, Bool.true_and]

theorem two_pow_burstDigits (s : State) : 2 ^ burstDigits s = s.burst := Nat.pow_add 2 5 s.loader.options.bCode

/-- Settles O34: the digits of a candidate are those of its number in reverse, and from that follow, for every number of digits, the
permutation, the first candidates and the table. -/
theorem scanOrderReversesTheDigits : Obligations.ScanOrderReversesTheDigits :=
  ⟨two_pow_burstDigits,
    fun n _ _ => ⟨scanOrder_perm_range n, fun _ inside _ digit => testBit_getD_scanOrder inside digit,
      fun _ hmn => take_scanOrder_perm hmn⟩,
    take_sixteen_scanOrder (n := 5) (by decide), take_sixteen_scanOrder (n := 6) (by decide),
    take_sixteen_scanOrder (n := 7) (by decide)⟩

end Sys2Proof.Machine
end

section
/-!
PROOF. The supply (R172, R176): what the hold turns off, that a held node takes nothing but a cold reset, and the end of the hold.
-/

namespace Sys2Proof.Machine

/-! ## What the hold turns off (R176) -/

theorem outputsOff_elements (c : Channel) (s : State) :
    (outputsOff s).elements[c] = { s.elements[c] with relay := false } := by
  simp [outputsOff, openRelays]

theorem outputsOff_gas (c : Channel) (s : State) :
    (outputsOff s).gas[c] = { s.gas[c] with valve := false, spark := false } := by
  simp [outputsOff, sparksOff, closeValves]

/-- The next map stays computed only where no computation was in flight to be abandoned (R66). -/
theorem abandonPlan_plan (s : State) :
    (abandonPlan s).plan = { s.plan with planning := none, computed := s.plan.computed && s.plan.planning.isNone } := by
  rw [abandonPlan, State.plan_setPlan]
  cases s.plan.planning with
  | none => simp
  | some inFlight => simp

theorem enterHold_elements (c : Channel) (s : State) :
    (enterHold s).elements[c] = { s.elements[c] with relay := false } :=
  outputsOff_elements c s

theorem enterHold_gas (c : Channel) (s : State) :
    (enterHold s).gas[c] = { s.gas[c] with valve := false, spark := false } :=
  outputsOff_gas c s

theorem enterHold_tx (s : State) : (enterHold s).tx = { s.tx with selection := none, sent := none } := rfl

theorem enterHold_plan (s : State) :
    (enterHold s).plan = { s.plan with planning := none, computed := s.plan.computed && s.plan.planning.isNone } :=
  abandonPlan_plan (cutFrame (outputsOff s))

theorem enterHold_loader (s : State) : (enterHold s).loader = { s.loader with held := true, reading := false } := rfl

/-- A held node drives no spark, whatever its sparks are: the drive needs RUN (R93). -/
theorem sparkEnable_of_held (s : State) (held : s.loader.held = true) : s.sparkEnable = false := by
  simp [State.sparkEnable, State.inRun, held]

theorem enterHold_sparkEnable (s : State) : (enterHold s).sparkEnable = false :=
  sparkEnable_of_held (enterHold s) rfl

theorem enterHold_lineDriven (s : State) : (enterHold s).lineDriven = false := rfl

/-- The blocks that the hold does not name keep their state. -/
theorem enterHold_eq (s : State) :
    enterHold s = { s with elements := (enterHold s).elements, gas := (enterHold s).gas, plan := (enterHold s).plan,
                           tx := (enterHold s).tx, loader := (enterHold s).loader } := rfl

/-! ## The supply at a node that is not held (R176) -/

theorem exec_supplyLow_of_ready (v : Nat) (s : State) (ready : s.ready) :
    exec (.supplyLow v) s = .next (takeSupplyLow v s) := by
  obtain ⟨notHeld, nothingDue, -⟩ := ready
  exact act_of_atRest (takeSupplyLow v) s notHeld nothingDue

theorem takeSupplyLow_of_level_le (v : Nat) (s : State) (enough : supplyLevel s.loader.supplyCode ≤ v) :
    takeSupplyLow v s = s :=
  if_neg (Nat.not_lt.mpr enough)

theorem takeSupplyLow_of_lt_level (v : Nat) (s : State) (low : v < supplyLevel s.loader.supplyCode) :
    takeSupplyLow v s = enterHold s :=
  if_pos low

/-! ## A held node (R176) -/

/-- A command other than a cold reset is an arrival or a due step (log 2), and both have their effect `u` only outside a hold. -/
theorem exec_guarded_by_hold (c : Instr) (s : State) (noReset : ∀ w b, c ≠ .coldReset w b) :
    ∃ u, exec c s = .next (if s.loader.held then s else u) := by
  cases c with
  | coldReset w b => exact absurd rfl (noReset w b)
  | _ => exact ⟨_, rfl⟩

theorem exec_of_held (c : Instr) (s : State) (held : s.loader.held = true) (noReset : ∀ w b, c ≠ .coldReset w b) :
    exec c s = .next s := by
  obtain ⟨u, guarded⟩ := exec_guarded_by_hold c s noReset
  rw [guarded, if_pos held]

/-! ## The end of the hold (R172, R176) -/

theorem resetSupply_of_held (s : State) (held : s.loader.held = true) :
    resetSupply s = 2700 + 200 * s.loader.supplyCode := by
  simp only [resetSupply, supplyLevel, recoveryMargin, held, if_true]
  omega

theorem exec_coldReset_of_le (v : Nat) (h : Bool) (s : State) (low : v ≤ resetSupply s) :
    exec (.coldReset v h) s = .next s :=
  congrArg Host.Outcome.next (if_neg (Nat.not_lt.mpr low))

theorem exec_coldReset_of_lt (v : Nat) (h : Bool) (s : State) (recovered : resetSupply s < v) :
    exec (.coldReset v h) s = .next (coldReset h s) :=
  congrArg Host.Outcome.next (if_pos recovered)

theorem coldReset_loader (h : Bool) (s : State) : (coldReset h s).loader = OptionLoader.reset := rfl

/-- Settles O4: below the level in use a node that was not held enters the hold, which only a cold reset above the recovery margin
ends. -/
theorem supplyLowHoldsTheNode : Obligations.SupplyLowHoldsTheNode := by
  intro v h s
  refine ⟨?enough, ?low, ?nothingTaken, ?notRecovered, ?recovered⟩
  case enough =>
    intro ready enough
    rw [exec_supplyLow_of_ready v s ready, takeSupplyLow_of_level_le v s enough]
  case low =>
    intro ready low
    refine ⟨enterHold s, ?_, enterHold_eq s, enterHold_loader s, (enterHold_elements · s), (enterHold_gas · s),
      enterHold_sparkEnable s, enterHold_lineDriven s, enterHold_tx s, enterHold_plan s⟩
    rw [exec_supplyLow_of_ready v s ready, takeSupplyLow_of_lt_level v s low]
  case nothingTaken => exact fun held c noReset => exec_of_held c s held noReset
  case notRecovered =>
    intro held low
    exact exec_coldReset_of_le v h s (low.trans_eq (resetSupply_of_held s held).symm)
  case recovered =>
    intro held recovered
    refine ⟨coldReset h s, exec_coldReset_of_lt v h s ((resetSupply_of_held s held).trans_lt recovered), ?_⟩
    rw [coldReset_loader]
    exact ⟨rfl, rfl, rfl⟩

end Sys2Proof.Machine
end

section
/-!
PROOF. What the operations leave unchanged that `StepKeeps` is made of and that have no frame in Laws: the start of an event, the
deliveries, the masked commands, the halt, the end of the option read.
-/

namespace Sys2Proof.Machine

/-! ## The start of an event (R13) -/

/-- `openEvent` changes at most base, plan, dispatcher, tx, receiver, event. -/
@[simp] theorem openEvent_frame (t : Nat) (s : State) :
    (openEvent t s).programs = s.programs ∧ (openEvent t s).handovers = s.handovers ∧
    (openEvent t s).elements = s.elements ∧ (openEvent t s).gas = s.gas ∧ (openEvent t s).arbiter = s.arbiter ∧
    (openEvent t s).peers = s.peers ∧ (openEvent t s).counters = s.counters ∧ (openEvent t s).loader = s.loader ∧
    (openEvent t s).pins = s.pins ∧ (openEvent t s).pending = s.pending := by
  simp [openEvent]

@[simp] theorem completePlan_table (s : State) : (completePlan s).plan.table = s.plan.table := by
  unfold completePlan; split <;> simp

@[simp] theorem openEvent_table (t : Nat) (s : State) : (openEvent t s).plan.table = s.plan.table := by
  simp [openEvent]

@[simp] theorem openEvent_fifo (t : Nat) (s : State) : (openEvent t s).dispatcher.fifo = s.dispatcher.fifo := by
  simp [openEvent]

theorem openEvent_base (t : Nat) (s : State) : (openEvent t s).base = { s.base with
    phase := (s.base.phase + 1) % s.burst, lastEvent := some t, eventPhase := (s.base.phase + 1) % s.burst
    eventRate := s.base.tickRate } := by
  simp [openEvent, nextPhase, State.burst]

/-- The flags stand in fields of the Transmitter that neither the selection nor a frame's start writes. -/
theorem flagOf_congr {tx tx' : Transmitter} (r : Request) (halt : tx'.halt = tx.halt) (presence : tx'.presence = tx.presence)
    (counts : tx'.counts = tx.counts) (kinds : channelFlags tx' = channelFlags tx) : flagOf tx' r = flagOf tx r := by
  cases r with
  | haltAll => exact halt
  | presence => exact presence
  | counts => exact counts
  | ofChannel k c => simp only [flagOf, kinds]

@[simp] theorem flagOf_line (tx : Transmitter) (x : Option Selection) (n : Option Nat) (a : Bool) (r : Request) :
    flagOf { tx with selection := x, sent := n, attempted := a } r = flagOf tx r :=
  flagOf_congr r rfl rfl rfl (funext fun k => by cases k <;> rfl)

@[simp] theorem openEvent_flagOf (t : Nat) (s : State) (r : Request) : flagOf (openEvent t s).tx r = flagOf s.tx r := by
  simp [openEvent]

/-! ## Deliveries -/

/-- `takeClaim` changes at most plan, tx. -/
@[simp] theorem takeClaim_frame (f : RxFrame) (s : State) :
    (takeClaim f s).base = s.base ∧ (takeClaim f s).programs = s.programs ∧ (takeClaim f s).handovers = s.handovers ∧
    (takeClaim f s).elements = s.elements ∧ (takeClaim f s).gas = s.gas ∧ (takeClaim f s).arbiter = s.arbiter ∧
    (takeClaim f s).peers = s.peers ∧ (takeClaim f s).receiver = s.receiver ∧
    (takeClaim f s).dispatcher = s.dispatcher ∧ (takeClaim f s).counters = s.counters ∧
    (takeClaim f s).loader = s.loader ∧ (takeClaim f s).pins = s.pins ∧ (takeClaim f s).event = s.event ∧
    (takeClaim f s).pending = s.pending := by
  unfold takeClaim; dsimp only; (repeat' split) <;> simp

/-- `takeRelease` changes at most plan. -/
@[simp] theorem takeRelease_frame (f : RxFrame) (s : State) :
    (takeRelease f s).base = s.base ∧ (takeRelease f s).programs = s.programs ∧ (takeRelease f s).handovers = s.handovers ∧
    (takeRelease f s).elements = s.elements ∧ (takeRelease f s).gas = s.gas ∧ (takeRelease f s).arbiter = s.arbiter ∧
    (takeRelease f s).peers = s.peers ∧ (takeRelease f s).receiver = s.receiver ∧
    (takeRelease f s).dispatcher = s.dispatcher ∧ (takeRelease f s).tx = s.tx ∧ (takeRelease f s).counters = s.counters ∧
    (takeRelease f s).loader = s.loader ∧ (takeRelease f s).pins = s.pins ∧ (takeRelease f s).event = s.event ∧
    (takeRelease f s).pending = s.pending := by
  unfold takeRelease; (repeat' split) <;> simp

/-- `takeSpark` changes at most arbiter, tx. -/
@[simp] theorem takeSpark_frame (f : RxFrame) (s : State) :
    (takeSpark f s).base = s.base ∧ (takeSpark f s).programs = s.programs ∧ (takeSpark f s).handovers = s.handovers ∧
    (takeSpark f s).elements = s.elements ∧ (takeSpark f s).gas = s.gas ∧ (takeSpark f s).plan = s.plan ∧
    (takeSpark f s).peers = s.peers ∧ (takeSpark f s).receiver = s.receiver ∧
    (takeSpark f s).dispatcher = s.dispatcher ∧ (takeSpark f s).counters = s.counters ∧
    (takeSpark f s).loader = s.loader ∧ (takeSpark f s).pins = s.pins ∧ (takeSpark f s).event = s.event ∧
    (takeSpark f s).pending = s.pending := by
  unfold takeSpark; (repeat' split) <;> simp

/-- `takeSparkFree` changes at most arbiter. -/
@[simp] theorem takeSparkFree_frame (f : RxFrame) (s : State) :
    (takeSparkFree f s).base = s.base ∧ (takeSparkFree f s).programs = s.programs ∧
    (takeSparkFree f s).handovers = s.handovers ∧ (takeSparkFree f s).elements = s.elements ∧
    (takeSparkFree f s).gas = s.gas ∧ (takeSparkFree f s).plan = s.plan ∧ (takeSparkFree f s).peers = s.peers ∧
    (takeSparkFree f s).receiver = s.receiver ∧ (takeSparkFree f s).dispatcher = s.dispatcher ∧
    (takeSparkFree f s).tx = s.tx ∧ (takeSparkFree f s).counters = s.counters ∧
    (takeSparkFree f s).loader = s.loader ∧ (takeSparkFree f s).pins = s.pins ∧ (takeSparkFree f s).event = s.event ∧
    (takeSparkFree f s).pending = s.pending := by
  unfold takeSparkFree; (repeat' split) <;> simp

/-- `takeQuery` changes at most tx. -/
@[simp] theorem takeQuery_frame (f : RxFrame) (s : State) :
    (takeQuery f s).base = s.base ∧ (takeQuery f s).programs = s.programs ∧ (takeQuery f s).handovers = s.handovers ∧
    (takeQuery f s).elements = s.elements ∧ (takeQuery f s).gas = s.gas ∧ (takeQuery f s).plan = s.plan ∧
    (takeQuery f s).arbiter = s.arbiter ∧ (takeQuery f s).peers = s.peers ∧ (takeQuery f s).receiver = s.receiver ∧
    (takeQuery f s).dispatcher = s.dispatcher ∧ (takeQuery f s).counters = s.counters ∧
    (takeQuery f s).loader = s.loader ∧ (takeQuery f s).pins = s.pins ∧ (takeQuery f s).event = s.event ∧
    (takeQuery f s).pending = s.pending := by
  unfold takeQuery; split <;> simp

/-- `takeProgramNotice` changes at most programs, handovers, tx. -/
@[simp] theorem takeProgramNotice_frame (f : RxFrame) (s : State) :
    (takeProgramNotice f s).base = s.base ∧ (takeProgramNotice f s).elements = s.elements ∧
    (takeProgramNotice f s).gas = s.gas ∧ (takeProgramNotice f s).plan = s.plan ∧
    (takeProgramNotice f s).arbiter = s.arbiter ∧ (takeProgramNotice f s).peers = s.peers ∧
    (takeProgramNotice f s).receiver = s.receiver ∧ (takeProgramNotice f s).dispatcher = s.dispatcher ∧
    (takeProgramNotice f s).counters = s.counters ∧ (takeProgramNotice f s).loader = s.loader ∧
    (takeProgramNotice f s).pins = s.pins ∧ (takeProgramNotice f s).event = s.event ∧
    (takeProgramNotice f s).pending = s.pending := by
  unfold takeProgramNotice; (repeat' split) <;> simp

/-! ## Commands on the channels a mask names -/

/-- A property that a command on a channel keeps is kept by the command on the channels that a mask names. -/
theorem onNamed_keeps {P : State → Prop} (body : List Byte) (g : Channel → State → State) (hg : ∀ c u, P u → P (g c u)) (s : State)
    (h : P s) : P (onNamed body g s) := by
  have one : ∀ (c : Channel) (u : State), P u → P (if maskNames body c then g c u else u) := by
    intro c u hu
    split
    · exact hg c u hu
    · exact hu
  unfold onNamed
  simp only [allChannels, List.foldl_cons, List.foldl_nil]
  exact one _ _ (one _ _ (one _ _ (one _ _ h)))

/-- START, HOLD, RESUME and STOP on the named channels change at most programs, handovers, gas, arbiter, tx. -/
theorem onNamed_frame (body : List Byte) (g : Channel → State → State)
    (hg : g = startOn ∨ g = holdOn ∨ g = resumeOn ∨ g = stopOn) (s : State) :
    (onNamed body g s).base = s.base ∧ (onNamed body g s).elements = s.elements ∧ (onNamed body g s).plan = s.plan ∧
    (onNamed body g s).peers = s.peers ∧ (onNamed body g s).receiver = s.receiver ∧
    (onNamed body g s).dispatcher = s.dispatcher ∧ (onNamed body g s).counters = s.counters ∧
    (onNamed body g s).loader = s.loader ∧ (onNamed body g s).pins = s.pins ∧ (onNamed body g s).event = s.event ∧
    (onNamed body g s).pending = s.pending := by
  refine onNamed_keeps (P := fun u => u.base = s.base ∧ u.elements = s.elements ∧ u.plan = s.plan ∧ u.peers = s.peers ∧
    u.receiver = s.receiver ∧ u.dispatcher = s.dispatcher ∧ u.counters = s.counters ∧ u.loader = s.loader ∧ u.pins = s.pins ∧
    u.event = s.event ∧ u.pending = s.pending) body g ?_ s (by simp)
  intro c u hu
  obtain rfl | rfl | rfl | rfl := hg <;> simpa using hu

theorem takeMasked_frame (g : Channel → State → State) (f : RxFrame) (s : State)
    (hg : g = startOn ∨ g = holdOn ∨ g = resumeOn ∨ g = stopOn) :
    (takeMasked g f s).base = s.base ∧ (takeMasked g f s).elements = s.elements ∧ (takeMasked g f s).plan = s.plan ∧
    (takeMasked g f s).peers = s.peers ∧ (takeMasked g f s).receiver = s.receiver ∧
    (takeMasked g f s).dispatcher = s.dispatcher ∧ (takeMasked g f s).counters = s.counters ∧
    (takeMasked g f s).loader = s.loader ∧ (takeMasked g f s).pins = s.pins ∧ (takeMasked g f s).event = s.event ∧
    (takeMasked g f s).pending = s.pending := by
  unfold takeMasked
  split
  · simp [onNamed_frame f.body g hg]
  · simp

/-! ## The halt and the option read -/

/-- `haltEffect` changes at most programs, handovers, gas, arbiter, tx. -/
@[simp] theorem haltEffect_frame (s : State) :
    (haltEffect s).base = s.base ∧ (haltEffect s).elements = s.elements ∧ (haltEffect s).plan = s.plan ∧
    (haltEffect s).peers = s.peers ∧ (haltEffect s).receiver = s.receiver ∧ (haltEffect s).dispatcher = s.dispatcher ∧
    (haltEffect s).counters = s.counters ∧ (haltEffect s).loader = s.loader ∧ (haltEffect s).pins = s.pins ∧
    (haltEffect s).event = s.event ∧ (haltEffect s).pending = s.pending := by
  unfold haltEffect; dsimp only; (repeat' split) <;> simp

/-- `endOptionRead` changes at most base, elements, gas, plan, receiver, tx, loader. -/
@[simp] theorem endOptionRead_frame (t : Nat) (block : List Byte) (s : State) :
    (endOptionRead t block s).programs = s.programs ∧ (endOptionRead t block s).handovers = s.handovers ∧
    (endOptionRead t block s).arbiter = s.arbiter ∧ (endOptionRead t block s).peers = s.peers ∧
    (endOptionRead t block s).dispatcher = s.dispatcher ∧ (endOptionRead t block s).counters = s.counters ∧
    (endOptionRead t block s).pins = s.pins ∧ (endOptionRead t block s).event = s.event ∧
    (endOptionRead t block s).pending = s.pending := by
  unfold endOptionRead; dsimp only; split <;> simp

@[simp] theorem warmReset_pending (t : Nat) (s : State) : (warmReset t s).pending = s.pending := rfl

@[simp] theorem takeRestart_pending (t : Nat) (f : RxFrame) (s : State) : (takeRestart t f s).pending = s.pending := by
  unfold takeRestart; split <;> rfl

end Sys2Proof.Machine
end

section
/-!
PROOF. The laws of the time base (R10 to R13): every piece of a step keeps them, and an event is taken to its end or leaves a step due.
-/

namespace Sys2Proof.Machine

/-! ## Rate, generator and phase -/

/-- The tick rate is that of the lock state, the generator stands still where it has to, the phase is inside the burst. -/
def State.timeBaseLaws (s : State) : Prop := s.rateFits ∧ s.generatorFits ∧ s.phaseFits

/-- The laws read of a state the time base and the loader alone. -/
theorem State.timeBaseLaws.congr {s t : State} (h : s.timeBaseLaws) (base : t.base = s.base) (loader : t.loader = s.loader) :
    t.timeBaseLaws := by
  simpa only [State.timeBaseLaws, State.rateFits, State.generatorFits, State.phaseFits, State.locked, State.burst, base, loader] using h

theorem burst_pos (s : State) : 0 < s.burst := by
  have : 0 < 2 ^ s.loader.options.bCode := Nat.pow_pos (by decide)
  unfold State.burst
  omega

theorem node_of_active {s : State} (h : s.active = true) :
    s.loader.held = false ∧ (s.loader.node = .listen ∨ s.loader.node = .run) := by
  simpa [State.active] using h

/-- The laws of a cold reset's time base and loader: SEEK, 10 ms, phase 0, the generator stopped. -/
theorem timeBaseLaws_reset : State.reset.timeBaseLaws := by
  simp [State.timeBaseLaws, State.rateFits, State.generatorFits, State.phaseFits, State.burst, State.reset, TimeBase.reset,
    OptionLoader.reset, Options.reset]

theorem lockedBase_rateFits (s : State) : (s.setBase (lockedBase s.base)).rateFits := by
  cases h : s.base.runBand.getD .f50 <;> simp [State.rateFits, lockedBase, h, lockOf, bandRate]

/-- LOST keeps the band and the rate, and SEEK keeps no band (R9, R12). -/
theorem lostBase_rateFits {s : State} (h : s.rateFits) : (s.setBase (lostBase s.base)).rateFits := by
  obtain ⟨seek, lock50, lock60, lost⟩ := h
  cases hl : s.base.lock <;> simp_all [State.rateFits, lostBase]

theorem countRun_frame (cls : Option Band) (b : TimeBase) :
    countRun cls b = { b with runBand := (countRun cls b).runBand, runLength := (countRun cls b).runLength } := by
  cases cls with
  | none => rfl
  | some x => simp only [countRun]; split <;> rfl

theorem judged_frame (j : Judgement) (t : Nat) (b : TimeBase) :
    judged j t b = { b with reference := (judged j t b).reference, badRun := (judged j t b).badRun } := by
  cases j <;> rfl

/-- A change of the time base that leaves lock state, band, rate, generator and phase keeps the laws. -/
theorem State.timeBaseLaws.setBase {s : State} (h : s.timeBaseLaws) {b : TimeBase} (lock : b.lock = s.base.lock)
    (band : b.band = s.base.band) (rate : b.tickRate = s.base.tickRate) (gen : b.freeRun = s.base.freeRun)
    (phase : b.phase = s.base.phase) : (s.setBase b).timeBaseLaws := by
  simpa only [State.timeBaseLaws, State.rateFits, State.generatorFits, State.phaseFits, State.locked, State.burst, State.base_setBase,
    State.loader_setBase, lock, band, rate, gen, phase] using h

/-- A phase taken modulo the burst keeps the laws outside START-UP. -/
theorem State.timeBaseLaws.withPhase {s t : State} (h : s.timeBaseLaws) (loader : t.loader = s.loader) (active : s.active = true)
    (n : Nat) (lock : t.base.lock = s.base.lock) (band : t.base.band = s.base.band) (rate : t.base.tickRate = s.base.tickRate)
    (gen : t.base.freeRun = s.base.freeRun) (phase : t.base.phase = n % s.burst) : t.timeBaseLaws := by
  obtain ⟨hr, hg, -⟩ := h
  obtain ⟨-, node⟩ := node_of_active active
  refine ⟨?_, ?_, ?_⟩
  · simpa only [State.rateFits, lock, band, rate] using hr
  · simpa only [State.generatorFits, State.locked, lock, gen, loader] using hg
  · refine ⟨?_, fun startUp => ?_⟩
    · have burst : t.burst = s.burst := by rw [State.burst, State.burst, loader]
      rw [phase, burst]
      exact Nat.mod_lt _ (burst_pos s)
    · rw [loader] at startUp
      rcases node with node | node <;> rw [node] at startUp <;> cases startUp

/-- Entering LISTEN from a state whose phase is 0 starts the generator outside a lock alone. -/
theorem enterListen_timeBaseLaws (m : Nat) (s : State) (rate : s.rateFits) (phase : s.base.phase = 0) :
    (enterListen m s).timeBaseLaws := by
  refine ⟨?_, ?_, ?_⟩
  · exact rate
  · cases locked : s.locked <;> simp [State.generatorFits, enterListen, locked]
    exact locked
  · refine ⟨?_, by simp [enterListen]⟩
    have : (enterListen m s).base.phase = 0 := by simpa [enterListen] using phase
    rw [this]
    exact burst_pos _

theorem enterConfigFault_timeBaseLaws {s : State} (h : s.timeBaseLaws) : (enterConfigFault s).timeBaseLaws := by
  obtain ⟨rate, -, phase, -⟩ := h
  refine ⟨?_, ?_, ?_⟩
  · simpa [State.rateFits, enterConfigFault] using rate
  · simp [State.generatorFits, enterConfigFault]
  · simpa [State.phaseFits, State.burst, enterConfigFault] using phase

theorem validFrame_timeBaseLaws (f : RxFrame) {s : State} (h : s.timeBaseLaws) : (validFrame f s).timeBaseLaws := by
  unfold validFrame
  split
  · exact enterConfigFault_timeBaseLaws h
  · exact h.congr (by simp) (by simp)

/-- A received character can end in an address clash, which stops the generator (R137); else it leaves time base and loader. -/
theorem receiveChar_timeBaseLaws (ch : LineChar) (own : Bool) {s : State} (h : s.timeBaseLaws) :
    (receiveChar ch own s).timeBaseLaws := by
  have complete : ∀ l k o u, State.timeBaseLaws u → (completeFrame l k o u).timeBaseLaws := by
    intro l k o u hu
    unfold completeFrame
    dsimp only
    split
    · exact validFrame_timeBaseLaws _ (hu.congr (by simp) (by simp))
    · exact hu.congr (by simp) (by simp)
  unfold receiveChar frameChar
  dsimp only
  repeat' split
  all_goals first
    | exact complete _ _ _ _ (h.congr (by simp) (by simp))
    | exact h.congr (by simp) (by simp)

theorem takeChar_timeBaseLaws (ch : LineChar) {s : State} (h : s.timeBaseLaws) : (takeChar ch s).timeBaseLaws := by
  unfold takeChar
  dsimp only
  repeat' split
  all_goals first
    | exact receiveChar_timeBaseLaws _ _ (h.congr (by simp) (by simp))
    | exact h

theorem adoptPhase_timeBaseLaws (x y : Nat) {s : State} (active : s.active = true) (h : s.timeBaseLaws) :
    (adoptPhase x y s).timeBaseLaws := by
  unfold adoptPhase
  dsimp only
  split
  · exact h
  · exact h.withPhase (by simp) active (s.base.phase + phaseShift s.burst x y) (by simp) (by simp) (by simp) (by simp) (by simp)

theorem takePresence_timeBaseLaws (f : RxFrame) {s : State} (active : s.active = true) (h : s.timeBaseLaws) :
    (takePresence f s).timeBaseLaws := by
  unfold takePresence
  split
  · split
    · exact h.congr (by simp) (by simp)
    · exact h
  · dsimp only
    have recorded : (recomputeDerived (setRecord f.source (heardRecord f.source f.body) s)).timeBaseLaws :=
      h.congr (by simp) (by simp)
    split
    · exact recorded
    · split
      · exact (adoptPhase_timeBaseLaws (presencePhase f.body) f.openerPhase (by simpa [State.active] using active) recorded).congr (by simp) (by simp)
      · exact recorded.congr (by simp) (by simp)

/-- No taking changes what the laws read: the time base, the node state and the options. -/
theorem takeOne_timeBaseLaws (x : Taking) {s : State} (h : s.timeBaseLaws) : (reporting (takeOne x) s).timeBaseLaws := by
  simpa [State.timeBaseLaws, State.rateFits, State.generatorFits, State.phaseFits, State.locked, State.burst] using h

theorem endOptionRead_timeBaseLaws (m : Nat) (block : List Byte) {s : State} (h : s.timeBaseLaws) (startUp : s.loader.node = .startUp) :
    (endOptionRead m block s).timeBaseLaws := by
  unfold endOptionRead
  dsimp only
  split
  · exact enterListen_timeBaseLaws m _ h.1 (h.2.2.2 startUp)
  · exact enterConfigFault_timeBaseLaws (h.setBase rfl rfl rfl rfl rfl)

/-- Every piece of a step keeps the laws of rate, generator and phase. -/
theorem timeBaseLaws_kept : StepKeeps State.timeBaseLaws where
  bookkeeping _ _ h := h.congr rfl rfl
  pins _ _ h := h.congr rfl rfl
  coldReset _ _ _ := timeBaseLaws_reset.congr rfl rfl
  taking x _ _ h := takeOne_timeBaseLaws x h
  openEvent t s active h := by
    have base := openEvent_base t s
    exact h.withPhase (by simp) active (s.base.phase + 1) (by rw [base]) (by rw [base]) (by rw [base]) (by rw [base]) (by rw [base])
  locking s h := ⟨lockedBase_rateFits s, by simp [State.generatorFits, lockedBase], h.2.2⟩
  losing s h := by
    have lost : (s.setBase (lostBase s.base)).timeBaseLaws :=
      ⟨lostBase_rateFits h.1, by simp [State.generatorFits, lostBase], h.2.2⟩
    exact lost.congr (by simp) (by simp)
  generator s p d n h still active := by
    obtain ⟨rate, gen, phase⟩ := h
    obtain ⟨-, node⟩ := node_of_active active
    have unlocked : s.locked = false := still.elim id fun running => (gen running).1
    refine ⟨rate, fun _ => ⟨unlocked, ?_⟩, phase⟩
    rcases node with node | node <;> simp [node]
  stamp _ _ h := h.setBase rfl rfl rfl rfl rfl
  reference _ _ h := h.setBase rfl rfl rfl rfl rfl
  running s t i h := by
    have frame := countRun_frame (classify i) s.base
    exact h.setBase (by rw [frame]) (by rw [frame]) (by rw [frame]) (by rw [frame]) (by rw [frame])
  judging s t i h := by
    have frame := judged_frame (judge (bandInForce s.base) i) t s.base
    exact h.setBase (by rw [frame]) (by rw [frame]) (by rw [frame]) (by rw [frame]) (by rw [frame])
  second _ _ h := h.congr (by simp) (by simp)
  expiry _ _ h := h.congr (by simp) (by simp)
  flamePresent _ _ h := h.congr (by simp) (by simp)
  flameAbsent _ _ h := h.congr (by simp) (by simp)
  ignitionEnd _ _ h := h.congr (by simp) (by simp)
  purgeEnd _ _ h := h.congr (by simp) (by simp)
  relightEnd _ _ h := h.congr (by simp) (by simp)
  holdLimit _ h := h.congr (by simp) (by simp)
  departure _ _ h := h.congr (by simp) (by simp)
  enterRun s h := by
    obtain ⟨rate, gen, phase⟩ := h
    refine ⟨by simpa [State.rateFits] using rate, ?_, ?_⟩
    · intro running
      obtain ⟨unlocked, -⟩ := gen (by simpa using running)
      exact ⟨by simpa [State.locked] using unlocked, by simp [enterRun], by simp [enterRun]⟩
    · exact ⟨by simpa [State.burst, enterRun] using phase.1, by simp [enterRun]⟩
  presenceDue _ h := h.congr (by simp) (by simp)
  enterHold s h := by
    simpa [State.timeBaseLaws, State.rateFits, State.generatorFits, State.phaseFits, State.locked, State.burst, enterHold] using h
  optionRead m block _ h startUp := endOptionRead_timeBaseLaws m block h startUp
  halt _ h := h.congr (by simp) (by simp)
  plan _ h := h.congr (by simp) (by simp)
  startPoint _ _ _ h := h.congr (by simp) (by simp)
  handover _ _ _ h := h.congr rfl rfl
  elementLevel _ _ _ _ h := h.congr (by simp) (by simp)
  elementLevelInEvent _ _ _ _ h := h.congr (by simp) (by simp)
  gasLevel _ _ _ _ h := h.congr (by simp) (by simp)
  deferEnd _ _ h := h.congr (by simp) (by simp)
  char ch _ h := takeChar_timeBaseLaws ch h
  line _ _ h := h.congr (by simp) (by simp)
  gap _ h := h.congr (by simp) (by simp)
  quiet _ h := h.congr (by simp) (by simp)
  removed _ _ _ _ h := h.congr rfl rfl
  presence f _ active h := (takePresence_timeBaseLaws f active h).congr (by simp) (by simp)
  claim _ _ _ h := h.congr (by simp) (by simp)
  release _ _ _ h := h.congr (by simp) (by simp)
  spark _ _ _ h := h.congr (by simp) (by simp)
  sparkFree _ _ _ h := h.congr (by simp) (by simp)
  program _ _ _ h := h.congr (by simp) (by simp)
  masked g f s hg _ h := by
    obtain ⟨base, -, -, -, -, -, -, loader, -⟩ := takeMasked_frame g f s hg
    exact h.congr base loader
  haltAll _ _ h := h.congr (by simp) (by simp)
  query _ _ _ h := h.congr (by simp) (by simp)
  restart m f s _ h := by
    unfold takeRestart
    split
    · exact enterListen_timeBaseLaws m _ timeBaseLaws_reset.1 rfl
    · exact h

end Sys2Proof.Machine
end

section
/-!
PROOF. Carrying out what is due comes to an end (log 2): every due step leaves less work, so the fuel of `settle` is enough, and a
settled node has nothing due.
-/

namespace Sys2Proof.Machine

/-! ## The work left in an event -/

/-- Room for three steps at each taking of a further event. -/
def eventWeight (s : State) : Nat := 3 * (allTakings.length + s.event.order.length)

/-- The loss of lock that the end of an event can make due, with the event it can make (R8, R9). -/
def lossWeight (s : State) : Nat := if s.locked = true ∧ 3 ≤ s.base.badRun then eventWeight s + 1 else 0

/-- What a due step can lead to: a lock or its loss makes an event, after which no loss is due; a second or a change of a flame can have
one more step due; the other steps none. -/
def stepWeight (s : State) : Due → Nat
  | .lock | .badRunLost => eventWeight s + 1
  | .secondComplete _ | .flamePresent _ | .flameAbsent _ => lossWeight s + 2
  | .stageExpiry _ | .ignitionEnd _ | .purgeEnd _ | .relightEnd _ | .holdLimit | .departure _ | .listenEnd | .presenceDue =>
    lossWeight s + 1

/-- The work left: the takings still to come and what the due step can lead to. -/
def workLeft (s : State) : Nat := 3 * s.event.untaken.length + (s.event.due.map (stepWeight s)).getD 0

theorem stepWeight_pos (s : State) (d : Due) : 0 < stepWeight s d := by
  cases d <;> simp [stepWeight]

theorem lossWeight_le (s : State) : lossWeight s ≤ eventWeight s + 1 := by
  unfold lossWeight; split <;> omega

/-- The weights read the time base and the sender's order alone. -/
theorem eventWeight_congr {s t : State} (order : t.event.order = s.event.order) : eventWeight t = eventWeight s := by
  simp only [eventWeight, order]

theorem lossWeight_congr {s t : State} (base : t.base = s.base) (order : t.event.order = s.event.order) :
    lossWeight t = lossWeight s := by
  have locked : t.locked = s.locked := by simp only [State.locked, base]
  simp only [lossWeight, locked, base, eventWeight_congr order]

theorem stepWeight_congr {s t : State} (base : t.base = s.base) (order : t.event.order = s.event.order) (d : Due) :
    stepWeight t d = stepWeight s d := by
  cases d <;> simp only [stepWeight, eventWeight_congr order, lossWeight_congr base order]

theorem lossWeight_of_badRun {s : State} (h : s.base.badRun = 0) : lossWeight s = 0 := by
  simp [lossWeight, h]

theorem lossWeight_of_unlocked {s : State} (h : s.locked = false) : lossWeight s = 0 := by
  simp [lossWeight, h]

theorem workLeft_le_settleFuel (s : State) : workLeft s ≤ settleFuel s := by
  have loss := lossWeight_le s
  have step : (s.event.due.map (stepWeight s)).getD 0 ≤ eventWeight s + 3 := by
    rcases s.event.due with _ | d
    · simp
    · cases d <;> simp [stepWeight] <;> omega
  unfold workLeft settleFuel
  unfold eventWeight at step
  omega

/-! ## What one taking can have due -/

/-- A due step that leads to one more at most, and to no event of its own. -/
def shortStep (d : Due) : Prop := d ≠ .lock ∧ d ≠ .badRunLost

theorem stepWeight_of_short (s : State) {d : Due} (h : shortStep d) : stepWeight s d ≤ lossWeight s + 2 := by
  cases d <;> simp_all [stepWeight, shortStep]

/-- Counting down makes a window's end due or nothing. -/
theorem countDown_due (c : Channel) (s : State) :
    (countDown c s).event.due = s.event.due ∨ ∃ w, (countDown c s).event.due = some (windowEnd c w) := by
  unfold countDown
  dsimp only
  split
  · exact .inl rfl
  · split
    · exact .inr ⟨_, rfl⟩
    · exact .inl rfl

theorem sequencerRest_due (c : Channel) (running : Bool) (s : State) :
    (sequencerRest c running s).event.due = s.event.due ∨ ∃ w, (sequencerRest c running s).event.due = some (windowEnd c w) := by
  unfold sequencerRest
  simp only [setProvenStep_frame]
  split
  · exact countDown_due c s
  · exact .inl rfl

/-- The steps that a taking can make due. -/
def dueFrom : Taking → Due → Prop
  | .listen, d => d = .listenEnd
  | .silence a, d => d = .departure a
  | .dwell, d => d = .holdLimit
  | .flame c, d => d = .flamePresent c ∨ d = .flameAbsent c ∨ ∃ w, d = windowEnd c w
  | .count c, d => d = .secondComplete c
  | .presence, d => d = .presenceDue
  | .swap, _ | .result _, _ | .sample _, _ | .relay _, _ | .plan, _ | .select, _ | .handover _, _ => False

theorem shortStep_of_dueFrom {x : Taking} {d : Due} (h : dueFrom x d) : shortStep d := by
  cases x <;> simp only [dueFrom] at h
  case flame c =>
    obtain rfl | rfl | ⟨w, rfl⟩ := h
    · simp [shortStep]
    · simp [shortStep]
    · cases w <;> simp [shortStep, windowEnd]
  all_goals subst h; simp [shortStep]

/-- A taking leaves what is due or makes a step of its own due. -/
theorem takeOne_due (x : Taking) (s : State) :
    (takeOne x s).event.due = s.event.due ∨ ∃ d, (takeOne x s).event.due = some d ∧ dueFrom x d := by
  cases x <;> simp only [takeOne]
  case listen => unfold takeListen; dsimp only; (repeat' split) <;> simp [dueFrom]
  case silence a => unfold takeSilence; dsimp only; (repeat' split) <;> simp [dueFrom]
  case dwell => unfold takeDwell; dsimp only; (repeat' split) <;> simp [dueFrom]
  case swap => unfold takeSwap; dsimp only; split <;> simp
  case result c => unfold takeResult takeSwap; dsimp only; split <;> simp
  case sample c => unfold takeSample; split <;> simp
  case relay c => unfold takeRelay takeSwap; dsimp only; (repeat' split) <;> simp
  case flame c =>
    have rest : ∀ (b : Bool) (u : State), u.event.due = s.event.due → (sequencerRest c b u).event.due = s.event.due ∨
        ∃ d, (sequencerRest c b u).event.due = some d ∧ dueFrom (.flame c) d := by
      intro b u hu
      rcases sequencerRest_due c b u with kept | ⟨w, ended⟩
      · exact .inl (kept.trans hu)
      · exact .inr ⟨_, ended, .inr (.inr ⟨w, rfl⟩)⟩
    unfold takeFlame
    dsimp only
    repeat' split
    all_goals first
      | exact .inl rfl
      | exact rest _ _ rfl
      | exact .inr ⟨.flameAbsent c, rfl, by simp [dueFrom]⟩
      | exact .inr ⟨.flamePresent c, rfl, by simp [dueFrom]⟩
  case count c => unfold takeCount; dsimp only; (repeat' split) <;> simp [dueFrom]
  case presence => unfold takePresenceCount; dsimp only; (repeat' split) <;> simp [dueFrom]
  case plan => simp
  case select => simp
  case handover c => simp

/-- No taking changes the sender's order. -/
theorem takeOne_order (x : Taking) (s : State) : (takeOne x s).event.order = s.event.order := by
  have down : ∀ (c : Channel) (b : Bool) (u : State), (sequencerRest c b u).event.order = u.event.order := by
    intro c b u
    unfold sequencerRest countDown
    dsimp only
    (repeat' split) <;> simp
  cases x <;> simp only [takeOne]
  case listen => unfold takeListen; dsimp only; (repeat' split) <;> simp
  case silence a => unfold takeSilence; dsimp only; (repeat' split) <;> simp
  case dwell => unfold takeDwell; dsimp only; (repeat' split) <;> simp
  case swap => unfold takeSwap; dsimp only; split <;> simp
  case result c => unfold takeResult takeSwap; dsimp only; split <;> simp
  case sample c => unfold takeSample; split <;> simp
  case relay c => unfold takeRelay takeSwap; dsimp only; (repeat' split) <;> simp
  case flame c => unfold takeFlame; dsimp only; (repeat' split) <;> simp [down]
  case count c => unfold takeCount; dsimp only; (repeat' split) <;> simp
  case presence => unfold takePresenceCount; dsimp only; (repeat' split) <;> simp
  case plan => simp
  case select => simp
  case handover c =>
    refine driverHandover_keeps (P := fun u => u.event.order = s.event.order) c s rfl ?_ ?_ <;> intros <;> simp

@[simp] theorem resumeTaking_order (xs : List Taking) (s : State) : (resumeTaking xs s).event.order = s.event.order := by
  refine resumeTaking_keeps (P := fun u => u.event.order = s.event.order) ?_ ?_ xs ?_ s rfl
  · intro xs u h; simpa using h
  · intro u h; simpa using h
  · intro x _ u h
    simpa using (takeOne_order x u).trans h

/-- Each taking done leaves less than its three steps of work. -/
theorem resumeTaking_workLeft (xs : List Taking) (s : State) (h : s.event.due = none) :
    workLeft (resumeTaking xs s) ≤ 3 * xs.length + lossWeight s := by
  induction xs generalizing s with
  | nil =>
    rw [resumeTaking_nil, endTaking]
    split
    next loss =>
      have loss' : s.locked = true ∧ 3 ≤ s.base.badRun := ⟨by simpa [State.locked] using loss.2.2.1, by simpa using loss.2.2.2⟩
      simp [workLeft, stepWeight, lossWeight, loss', eventWeight]
    next => simp [workLeft, h]
  | cons x xs ih =>
    have base : (reporting (takeOne x) s).base = s.base := by simp
    have order : (reporting (takeOne x) s).event.order = s.event.order := by simpa using takeOne_order x s
    rw [resumeTaking_cons]
    split
    next none =>
      have rest := ih _ none
      rw [lossWeight_congr base order] at rest
      simp only [List.length_cons]
      omega
    next some =>
      obtain ⟨d, due, short⟩ : ∃ d, (reporting (takeOne x) s).event.due = Option.some d ∧ shortStep d := by
        rcases takeOne_due x s with kept | ⟨d, due, source⟩
        · simp [kept, h] at some
        · exact ⟨d, by simpa using due, shortStep_of_dueFrom source⟩
      have weight := stepWeight_of_short s short
      rw [← stepWeight_congr (t := setUntaken xs (reporting (takeOne x) s)) (by simp) (by simpa using takeOne_order x s) d] at weight
      simp only [workLeft, setUntaken_frame, due, Option.map_some, Option.getD_some, List.length_cons]
      omega

/-! ## Every due step leaves less work -/

theorem firstOnce_length_le (seen l : List Taking) : (firstOnce seen l).length ≤ l.length := by
  induction l generalizing seen with
  | nil => simp [firstOnce]
  | cons x xs ih =>
    unfold firstOnce
    split
    · exact (ih seen).trans (Nat.le_succ _)
    · exact Nat.succ_le_succ (ih (x :: seen))

theorem fullOrder_length_le (s : State) : 3 * (fullOrder s.event.order).length ≤ eventWeight s := by
  have := firstOnce_length_le [] (s.event.order ++ allTakings)
  rw [List.length_append] at this
  unfold eventWeight fullOrder
  omega

/-- An event after which no loss of lock can be due leaves at most the work of its takings. -/
theorem halfCycleEvent_workLeft (t : Nat) (s : State) (loss : lossWeight s = 0) (due : s.event.due = none) :
    workLeft (goOn (halfCycleEvent t s)) ≤ 3 * s.event.untaken.length + eventWeight s := by
  cases active : s.active with
  | false =>
    have rest := resumeTaking_workLeft s.event.untaken s due
    rw [halfCycleEvent_of_inactive t s active, goOn, if_pos due]
    omega
  | true =>
    have event : halfCycleEvent t s = resumeTaking (fullOrder s.event.order) (openEvent t s) := by simp [halfCycleEvent, active]
    have loss' : lossWeight (openEvent t s) = 0 := by
      have order : (openEvent t s).event.order = s.event.order := by simp [openEvent]
      have locked : (openEvent t s).locked = s.locked := by simp only [State.locked, openEvent_base]
      rw [← loss]
      simp only [lossWeight, locked, openEvent_base, eventWeight_congr order]
    have first := resumeTaking_workLeft (fullOrder s.event.order) (openEvent t s) (by simp [openEvent])
    have length := fullOrder_length_le s
    rw [event, goOn]
    split
    next none =>
      obtain ⟨untaken, -⟩ := resumeTaking_ends _ _ none
      have second := resumeTaking_workLeft [] _ none
      rw [lossWeight_congr (resumeTaking_frame _ _).1 (resumeTaking_order _ _), loss'] at second
      rw [untaken]
      simp only [List.length_nil] at second
      omega
    next => omega

/-- What a step other than a lock or its loss leaves to do. -/
theorem goOn_workLeft_of_short (d : Due) (s u : State) (base : u.base = s.base) (order : u.event.order = s.event.order)
    (untaken : u.event.untaken = s.event.untaken) (hs : s.event.due = some d)
    (hu : u.event.due = none ∨ ∃ e, u.event.due = some e ∧ stepWeight s e < stepWeight s d) (long : lossWeight s < stepWeight s d) :
    workLeft (goOn u) < workLeft s := by
  have work : workLeft s = 3 * s.event.untaken.length + stepWeight s d := by simp [workLeft, hs]
  rw [goOn]
  rcases hu with none | ⟨e, some, less⟩
  · have rest := resumeTaking_workLeft u.event.untaken u none
    rw [if_pos none, work]
    rw [lossWeight_congr base order, untaken] at rest
    rw [untaken]
    omega
  · rw [if_neg (by simp [some]), work]
    simp only [workLeft, some, untaken, Option.map_some, Option.getD_some, stepWeight_congr base order]
    omega

theorem secondStep_due (c : Channel) (s : State) (h : s.event.due = none) : (secondStep c s).event.due = none ∨
    (secondStep c s).event.due = some (.stageExpiry c) := by
  unfold secondStep
  dsimp only
  (repeat' split) <;> simp [h]

@[simp] theorem secondStep_event (c : Channel) (s : State) : (secondStep c s).event.order = s.event.order ∧
    (secondStep c s).event.untaken = s.event.untaken := by
  unfold secondStep
  dsimp only
  (repeat' split) <;> simp

@[simp] theorem sequencerRest_event (c : Channel) (running : Bool) (s : State) :
    (sequencerRest c running s).event.order = s.event.order ∧ (sequencerRest c running s).event.untaken = s.event.untaken := by
  unfold sequencerRest countDown
  dsimp only
  (repeat' split) <;> simp

@[simp] theorem flamePresentStep_event (c : Channel) (s : State) : (flamePresentStep c s).event.order = s.event.order ∧
    (flamePresentStep c s).event.untaken = s.event.untaken := by
  simp [flamePresentStep]

@[simp] theorem flameAbsentStep_event (c : Channel) (s : State) : (flameAbsentStep c s).event.order = s.event.order ∧
    (flameAbsentStep c s).event.untaken = s.event.untaken := by
  simp [flameAbsentStep]

theorem flamePresentStep_due (c : Channel) (s : State) (h : s.event.due = none) : (flamePresentStep c s).event.due = none ∨
    ∃ w, (flamePresentStep c s).event.due = some (windowEnd c w) := by
  simpa [flamePresentStep, h] using sequencerRest_due c s.gas[c].countdown.isSome
    (flameAppears c (s.setGas c { s.gas[c] with flame := true, run := 0 }))

theorem flameAbsentStep_due (c : Channel) (s : State) (h : s.event.due = none) : (flameAbsentStep c s).event.due = none ∨
    ∃ w, (flameAbsentStep c s).event.due = some (windowEnd c w) := by
  simpa [flameAbsentStep, h] using sequencerRest_due c s.gas[c].countdown.isSome
    (flameVanishes c (s.setGas c { s.gas[c] with flame := false, run := 0 }))

theorem stepWeight_windowEnd (s : State) (c : Channel) (w : Window) : stepWeight s (windowEnd c w) = lossWeight s + 1 := by
  cases w <;> rfl

theorem lockStep_workLeft (s : State) (due : s.event.due = none) :
    workLeft (goOn (lockStep s)) ≤ 3 * s.event.untaken.length + eventWeight s := by
  have loss : lossWeight (s.setBase (lockedBase s.base)) = 0 := lossWeight_of_badRun rfl
  unfold lockStep
  dsimp only
  split
  · have rest := resumeTaking_workLeft s.event.untaken (s.setBase (lockedBase s.base)) due
    rw [goOn, if_pos (by exact due)]
    simp only [State.event_setBase]
    omega
  · exact halfCycleEvent_workLeft _ _ loss due

theorem enterLost_workLeft (s : State) (due : s.event.due = none) :
    workLeft (goOn (enterLost s)) ≤ 3 * s.event.untaken.length + eventWeight s := by
  have settled : ∀ u : State, u.event = s.event → u.locked = false →
      workLeft (goOn u) ≤ 3 * s.event.untaken.length + eventWeight s := by
    intro u event unlocked
    have due' : u.event.due = none := by rw [event, due]
    have rest := resumeTaking_workLeft u.event.untaken u due'
    rw [lossWeight_of_unlocked unlocked] at rest
    rw [goOn, if_pos due']
    rw [event] at rest ⊢
    omega
  unfold enterLost
  dsimp only
  split
  · split
    · refine (halfCycleEvent_workLeft _ _ (lossWeight_of_unlocked ?_) ?_).trans_eq ?_
      · simp [State.locked, lostBase]
      · simpa using due
      · simp [eventWeight]
    · exact settled _ (by simp) (by simp [State.locked, lostBase])
  · exact settled _ (by simp) (by simp [State.locked, lostBase])

theorem carryOut_workLeft (d : Due) (s : State) (h : s.event.due = some d) : workLeft (carryOut d s) < workLeft s := by
  have work : workLeft s = 3 * s.event.untaken.length + stepWeight s d := by simp [workLeft, h]
  have kept : ∀ u : State, u.base = s.base → u.event = (setDue none s).event → lossWeight s < stepWeight s d →
      workLeft (goOn u) < workLeft s := fun u base event long =>
    goOn_workLeft_of_short d s u base (by simp [event]) (by simp [event]) h (.inl (by simp [event])) long
  unfold carryOut
  cases d <;> simp only [dueStep]
  case lock =>
    have step := lockStep_workLeft (setDue none s) (by simp)
    simp only [setDue_frame, stepWeight, eventWeight_congr (t := setDue none s) (s := s) (by simp)] at step work
    omega
  case badRunLost =>
    have step := enterLost_workLeft (setDue none s) (by simp)
    simp only [setDue_frame, stepWeight, eventWeight_congr (t := setDue none s) (s := s) (by simp)] at step work
    omega
  case secondComplete c =>
    refine goOn_workLeft_of_short _ s _ (by simp) (by simp) (by simp) h ?_ (by simp [stepWeight])
    rcases secondStep_due c (setDue none s) (by simp) with none | some
    · exact .inl (by simpa using none)
    · exact .inr ⟨_, by simpa using some, by simp [stepWeight]⟩
  case flamePresent c =>
    refine goOn_workLeft_of_short _ s _ (by simp) (by simp) (by simp) h ?_ (by simp [stepWeight])
    rcases flamePresentStep_due c (setDue none s) (by simp) with none | ⟨w, some⟩
    · exact .inl (by simpa using none)
    · exact .inr ⟨_, by simpa using some, by rw [stepWeight_windowEnd]; simp [stepWeight]⟩
  case flameAbsent c =>
    refine goOn_workLeft_of_short _ s _ (by simp) (by simp) (by simp) h ?_ (by simp [stepWeight])
    rcases flameAbsentStep_due c (setDue none s) (by simp) with none | ⟨w, some⟩
    · exact .inl (by simpa using none)
    · exact .inr ⟨_, by simpa using some, by rw [stepWeight_windowEnd]; simp [stepWeight]⟩
  all_goals exact kept _ (by simp) (by simp) (by simp [stepWeight])

/-! ## Settling -/

theorem settleSteps_of_due (stop : Option Due) (n : Nat) (s : State) (d : Due) (h : s.event.due = some d) :
    settleSteps stop (n + 1) s = if stop = some d then s else settleSteps stop n (carryOut d s) := by
  rw [settleSteps, h]

theorem due_of_workLeft_eq_zero {s : State} (h : workLeft s = 0) : s.event.due = none := by
  rcases due : s.event.due with _ | d
  · rfl
  · have := stepWeight_pos s d
    simp only [workLeft, due, Option.map_some, Option.getD_some] at h
    omega

/-- With fuel for the work left, more fuel changes nothing. -/
theorem settleSteps_fuel (stop : Option Due) (n m : Nat) (s : State) (hn : workLeft s ≤ n) (hm : workLeft s ≤ m) :
    settleSteps stop n s = settleSteps stop m s := by
  induction n generalizing m s with
  | zero =>
    have rest : s.atRest := due_of_workLeft_eq_zero (Nat.le_zero.mp hn)
    rw [settleSteps_of_atRest stop 0 s rest, settleSteps_of_atRest stop m s rest]
  | succ n ih =>
    rcases due : s.event.due with _ | d
    · rw [settleSteps_of_atRest stop _ s due, settleSteps_of_atRest stop m s due]
    · have less := carryOut_workLeft d s due
      obtain ⟨m, rfl⟩ : ∃ k, m = k + 1 := ⟨m - 1, by omega⟩
      rw [settleSteps_of_due stop n s d due, settleSteps_of_due stop m s d due,
        ih m (carryOut d s) (by omega) (by omega)]

theorem settleSteps_due (n : Nat) (s : State) (hn : workLeft s ≤ n) : (settleSteps none n s).event.due = none := by
  induction n generalizing s with
  | zero => exact due_of_workLeft_eq_zero (Nat.le_zero.mp hn)
  | succ n ih =>
    rcases due : s.event.due with _ | d
    · rwa [settleSteps_of_atRest none _ s due]
    · have less := carryOut_workLeft d s due
      rw [settleSteps_of_due none n s d due, if_neg (by simp)]
      exact ih _ (by omega)

/-- A settled node has nothing due. -/
theorem settle_due (s : State) : (settle s).event.due = none := settleSteps_due _ s (workLeft_le_settleFuel s)

/-- Settling up to a step is carrying out what is due and settling up to it from there. -/
theorem settleSteps_carryOut (stop : Option Due) (s : State) (d : Due) (h : s.event.due = some d) (hd : stop ≠ some d) :
    settleSteps stop (settleFuel s) s = settleSteps stop (settleFuel (carryOut d s)) (carryOut d s) := by
  have less := carryOut_workLeft d s h
  have fuel := workLeft_le_settleFuel s
  obtain ⟨n, hn⟩ : ∃ n, settleFuel s = n + 1 := ⟨settleFuel s - 1, by omega⟩
  rw [hn, settleSteps_of_due stop n s d h, if_neg hd]
  exact settleSteps_fuel stop _ _ _ (by omega) (workLeft_le_settleFuel _)

theorem settle_carryOut (s : State) (d : Due) (h : s.event.due = some d) : settle s = settle (carryOut d s) :=
  settleSteps_carryOut none s d h (by simp)

end Sys2Proof.Machine
end

section
/-!
PROOF. The commands are a cold reset, the due steps and the arrivals; what each of the three kinds finds carried out before it (log 2).
-/

namespace Sys2Proof.Machine

/-! ## The three kinds of command -/

/-- The effect of a command that is an arrival of its own, on a node with nothing due; none for a cold reset and for a due step. -/
def arrival : Instr → Option (State → State)
  | .coldReset _ _ | .lock | .badRunLost | .secondComplete _ | .stageExpiry _ | .flameDebouncePresent _ | .flameDebounceAbsent _
  | .ignitionWindowEnd _ | .purgeEnd _ | .relightWindowEnd _ | .holdLimit | .silenceDeparture _ | .listenCountEnd
  | .presenceCountDue => none
  | .supplyLow v => some (takeSupplyLow v)
  | .optionReadComplete t block => some (takeOptionRead t block)
  | .crossing t inp => some fun u => takeCrossing t (withInputs inp u)
  | .lockTimeout inp => some fun u => takeTimeout (withInputs inp u)
  | .freeRunDue inp => some fun u => takeFreeRun (withInputs inp u)
  | .planComputationComplete => some completePlan
  | .sparkStartPoint p => some fun u => if p.bits = u.defer then takeStartPoint p.busy u else u
  | .frameStart p => some fun u =>
    if u.active && p.bits == u.defer then deferEnd p.quiet (if p.quiet then lineRests u else u) else u
  | .frameReceived chars => some (takeChars chars)
  | .rxGapTimeout => some lineGap
  | .resyncQuiet => some lineQuiet
  | .transmitAbort ch => some (echoMismatch ch)
  | .presence => some (deliver .presence fun f => reporting (takePresence f))
  | .claim => some (deliver .claim takeClaim)
  | .release => some (deliver .release takeRelease)
  | .spark => some (deliver .spark takeSpark)
  | .sparkFree => some (deliver .sparkFree takeSparkFree)
  | .program => some (deliver .program takeProgramNotice)
  | .start => some (deliver .start (takeMasked startOn))
  | .hold => some (deliver .hold (takeMasked holdOn))
  | .resume => some (deliver .resume (takeMasked resumeOn))
  | .stop => some (deliver .stop (takeMasked stopOn))
  | .haltAll => some (deliver .haltAll fun _ => reporting stopAll)
  | .query => some (deliver .query takeQuery)
  | .restart t => some (deliver .restart (takeRestart t))
  | .state => some (deliver .state fun _ u => u)
  | .counts => some (deliver .counts fun _ u => u)
  | .haltAssertion => some takeHalt
  | .haltInputRelease => some takeHaltRelease
  | .elementHandover c => some (reporting (takeHandover .element takeElementLevel c))
  | .gasHandover c => some (reporting (takeHandover .gas takeGasLevel c))
  | .opener => some (takeChar { byte := openerChar, framingError := false })
  | .framingError byte => some (takeChar { byte := byte, framingError := true })

theorem exec_stepCommand (d : Due) (s : State) : exec (stepCommand d) s = actDue d s := by
  cases d <;> rfl

theorem exec_arrival {c : Instr} {f : State → State} (h : arrival c = some f) (s : State) : exec c s = act f s := by
  cases c <;> cases h <;> rfl

theorem command_kinds (c : Instr) :
    (∃ w b, c = .coldReset w b) ∨ (∃ d, c = stepCommand d) ∨ ∃ f, arrival c = some f := by
  cases c
  case coldReset w b => exact .inl ⟨w, b, rfl⟩
  case lock => exact .inr (.inl ⟨.lock, rfl⟩)
  case badRunLost => exact .inr (.inl ⟨.badRunLost, rfl⟩)
  case secondComplete c => exact .inr (.inl ⟨.secondComplete c, rfl⟩)
  case stageExpiry c => exact .inr (.inl ⟨.stageExpiry c, rfl⟩)
  case flameDebouncePresent c => exact .inr (.inl ⟨.flamePresent c, rfl⟩)
  case flameDebounceAbsent c => exact .inr (.inl ⟨.flameAbsent c, rfl⟩)
  case ignitionWindowEnd c => exact .inr (.inl ⟨.ignitionEnd c, rfl⟩)
  case purgeEnd c => exact .inr (.inl ⟨.purgeEnd c, rfl⟩)
  case relightWindowEnd c => exact .inr (.inl ⟨.relightEnd c, rfl⟩)
  case holdLimit => exact .inr (.inl ⟨.holdLimit, rfl⟩)
  case silenceDeparture a => exact .inr (.inl ⟨.departure a, rfl⟩)
  case listenCountEnd => exact .inr (.inl ⟨.listenEnd, rfl⟩)
  case presenceCountDue => exact .inr (.inl ⟨.presenceDue, rfl⟩)
  all_goals exact .inr (.inr ⟨_, rfl⟩)

/-! ## An arrival and a due step at a node that is not held -/

theorem exec_arrival_of_ready {c : Instr} {f : State → State} (h : arrival c = some f) {s : State} (ready : s.ready) :
    exec c s = .next (f s) := by
  obtain ⟨notHeld, nothingDue, -⟩ := ready
  rw [exec_arrival h, act_of_atRest f s notHeld nothingDue]

theorem exec_stepCommand_of_due {d : Due} {s : State} (h : s.dueNow d) :
    exec (stepCommand d) s = .next (goOn (dueStep d (setDue none s))) := by
  rw [exec_stepCommand, actDue_of_due d s h.1 h.2]
  rfl

/-! ## A property that every command keeps, arrivals coming to a settled node -/

/-- Carrying out what is due leaves the node as it is in its hold. -/
theorem carryOut_held (d : Due) (s : State) : (carryOut d s).loader.held = s.loader.held := by
  have event : ∀ (t : Nat) (u : State), (halfCycleEvent t u).loader.held = u.loader.held := by
    intro t u
    unfold halfCycleEvent
    split <;> simp
  have go : ∀ u : State, (goOn u).loader.held = u.loader.held := by
    intro u
    unfold goOn
    split <;> simp
  unfold carryOut
  rw [go]
  cases d <;> simp only [dueStep]
  case lock => unfold lockStep; dsimp only; split <;> simp [event]
  case badRunLost => unfold enterLost; dsimp only; (repeat' split) <;> simp [event]
  case listenEnd => simp [enterRun]
  all_goals simp

theorem settle_held (s : State) : (settle s).loader.held = s.loader.held :=
  settleSteps_keeps (P := fun u => u.loader.held = s.loader.held) (fun d u _ hu => (carryOut_held d u).trans hu) none _ s rfl

/-- A property is kept by every command where a cold reset, what is carried out of a due step, and the effect of an arrival on a node
with nothing due keep it. -/
theorem exec_keeps_settled {P : State → Prop} (cold : ∀ halt s, P s → P (coldReset halt s))
    (due : ∀ d s, s.event.due = some d → P s → P (carryOut d s))
    (arrives : ∀ c f, arrival c = some f → ∀ s, s.event.due = none → P s → P (f s)) (c : Instr) (s t : State) (h : P s)
    (e : exec c s = .next t) : P t := by
  obtain ⟨w, b, rfl⟩ | ⟨d, rfl⟩ | ⟨f, hf⟩ := command_kinds c
  · obtain e : Host.Outcome.next (if resetSupply s < w then coldReset b s else s) = .next t := e
    split at e <;> cases e
    · exact cold b s h
    · exact h
  · rw [exec_stepCommand] at e
    exact actDue_keeps d s t due h e
  · rw [exec_arrival hf, act] at e
    split at e <;> cases e
    · exact h
    · exact arrives c f hf _ (settle_due s) (settleSteps_keeps due none _ s h)

/-- The same for a step of the machine: an empty queue lets the line rest at a settled node. -/
theorem step_keeps_settled {P : State → Prop} (cold : ∀ halt s, P s → P (coldReset halt s))
    (due : ∀ d s, s.event.due = some d → P s → P (carryOut d s))
    (arrives : ∀ c f, arrival c = some f → ∀ s, s.event.due = none → P s → P (f s)) (rests : ∀ s, P s → P (lineRests s))
    (queue : ∀ s q, P s → P (s.setPending q)) (s t : State) (h : P s) (e : step s = .next t) : P t := by
  unfold step at e
  split at e
  · exact act_keeps lineRests s t due rests h e
  · exact exec_keeps_settled cold due arrives _ _ t (queue _ _ h) e

/-! ## The front of the queue -/

/-- Settles O1: by definition of the step. -/
theorem stepTakesTheCommandInFront : Obligations.StepTakesTheCommandInFront := by
  intro c rest s front
  unfold step
  rw [front]

/-- No piece of a step but the front's removal touches the commands waiting. -/
theorem pending_kept (q : List Instr) : StepKeeps fun u => u.pending = q where
  bookkeeping _ _ h := h
  pins _ _ h := h
  coldReset _ _ h := h
  taking _ _ _ h := by simpa using h
  openEvent _ _ _ h := by simpa using h
  locking _ h := h
  losing _ h := by simpa using h
  generator _ _ _ _ h _ _ := h
  stamp _ _ h := h
  reference _ _ h := h
  running _ _ _ h := h
  judging _ _ _ h := h
  second _ _ h := by simpa using h
  expiry _ _ h := by simpa using h
  flamePresent _ _ h := by simpa using h
  flameAbsent _ _ h := by simpa using h
  ignitionEnd _ _ h := by simpa using h
  purgeEnd _ _ h := by simpa using h
  relightEnd _ _ h := by simpa using h
  holdLimit _ h := by simpa using h
  departure _ _ h := by simpa using h
  enterRun _ h := by simpa using h
  presenceDue _ h := by simpa using h
  enterHold _ h := by simpa using h
  optionRead _ _ _ h _ := by simpa using h
  halt _ h := by simpa using h
  plan _ h := by simpa using h
  startPoint _ _ _ h := by simpa using h
  handover _ _ _ h := h
  elementLevel _ _ _ _ h := by simpa using h
  elementLevelInEvent _ _ _ _ h := by simpa using h
  gasLevel _ _ _ _ h := by simpa using h
  deferEnd _ _ h := by simpa using h
  char _ _ h := by simpa using h
  line _ _ h := by simpa using h
  gap _ h := by simpa using h
  quiet _ h := by simpa using h
  removed _ _ _ _ h := h
  presence _ _ _ h := by simpa using h
  claim _ _ _ h := by simpa using h
  release _ _ _ h := by simpa using h
  spark _ _ _ h := by simpa using h
  sparkFree _ _ _ h := by simpa using h
  program _ _ _ h := by simpa using h
  masked g f s hg _ h := by simpa [takeMasked_frame g f s hg] using h
  haltAll _ _ h := by simpa using h
  query _ _ _ h := by simpa using h
  restart _ _ _ _ h := by simpa using h

theorem exec_next (c : Instr) (s : State) : ∃ t, exec c s = .next t := by
  obtain ⟨w, b, rfl⟩ | ⟨d, rfl⟩ | ⟨f, hf⟩ := command_kinds c
  · exact ⟨_, rfl⟩
  · exact ⟨_, exec_stepCommand d s⟩
  · exact ⟨_, exec_arrival hf s⟩

/-- Settles O3: every command is total, and no piece of a step touches the queue. -/
theorem everyCommandCompletesAndLeavesTheQueue : Obligations.EveryCommandCompletesAndLeavesTheQueue := by
  intro c s
  obtain ⟨t, e⟩ := exec_next c s
  exact ⟨t, e, (pending_kept s.pending).exec c s t rfl e⟩

/-! ## What is due -/

/-- A resting line at any node: the indication falls where the receiver is not idle. -/
theorem lineRests_eq (s : State) :
    lineRests s = { s with receiver := { s.receiver with lineBusy := s.receiver.lineBusy && !s.active } } := by
  unfold lineRests senseLine
  cases active : s.active <;> simp [State.setReceiver]

theorem step_of_empty (s : State) (empty : s.pending = []) : step s = act lineRests s := by
  unfold step
  rw [empty]
  rfl

theorem exec_arrival_settle {c : Instr} {f : State → State} (h : arrival c = some f) (s : State) (notHeld : s.loader.held = false) :
    exec c s = exec c (settle s) := by
  rw [exec_arrival h, exec_arrival h, act, act, settle_held, settle_of_atRest (settle s) (settle_due s), notHeld]
  rfl

/-- The command of a step that is not the one due carries that one out first. -/
theorem exec_stepCommand_carryOut {d e : Due} {s : State} (due : s.dueNow e) (other : e ≠ d) :
    exec (stepCommand d) s = exec (stepCommand d) (carryOut e s) := by
  have reach : reachStep d s = reachStep d (carryOut e s) := by
    simp only [reachStep]
    rw [settleSteps_carryOut (some d) s e due.2 fun same => other (Option.some.inj same).symm]
  rw [exec_stepCommand, exec_stepCommand, actDue, actDue, carryOut_held, reach, due.1]
  rfl

theorem lineRests_due (s : State) : (lineRests s).event.due = s.event.due := by
  rw [lineRests_eq]

/-- Settles O2: what an empty queue, an arrival and a due step do is settling, and settling carries out one due step after another
(`settle_carryOut`) until nothing is due (`settle_due`). -/
theorem emptyQueueStepCarriesOutWhatIsDue : Obligations.EmptyQueueStepCarriesOutWhatIsDue := by
  refine ⟨fun s empty => ⟨fun held => ?_, fun ready => ?_, fun notHeld => ?_⟩, fun s due => settle_of_atRest s due, ?_, ?_, ?_, ?_⟩
  · rw [step_of_empty s empty, act_of_held lineRests s held]
  · rw [step_of_empty s empty, act_of_atRest lineRests s ready.1 ready.2.1, lineRests_eq]
  · refine ⟨lineRests (settle s), ?_, rfl, (lineRests_due _).trans (settle_due s)⟩
    rw [step_of_empty s empty, act, notHeld]
    rfl
  · intro d s t due done
    rw [exec_stepCommand_of_due due] at done
    cases done
    exact settle_carryOut s d due.2
  · intro c s notHeld notStep notReset
    obtain ⟨w, b, rfl⟩ | ⟨d, rfl⟩ | ⟨f, hf⟩ := command_kinds c
    · exact absurd rfl (notReset w b)
    · exact absurd rfl (notStep d)
    · exact exec_arrival_settle hf s notHeld
  · intro d e s t due other done
    rw [exec_stepCommand_of_due due] at done
    cases done
    exact exec_stepCommand_carryOut due other
  · intro d s notHeld due
    rw [exec_stepCommand, actDue_of_atRest d s notHeld due]

end Sys2Proof.Machine
end

section
/-!
PROOF. Every step keeps the laws of the time base (O18): an event that is begun is taken to its end or leaves a step due (log 2).
-/

namespace Sys2Proof.Machine

/-! ## An event is taken to its end or leaves a step due -/

theorem resumeTaking_eventFits (xs : List Taking) (s : State) : (resumeTaking xs s).eventFits :=
  fun due => (resumeTaking_ends xs s due).1

theorem State.eventFits.congr {s t : State} (h : s.eventFits) (event : t.event = s.event) : t.eventFits := by
  simpa only [State.eventFits, event] using h

theorem eventFits_of_untaken {s : State} (h : s.event.untaken = []) : s.eventFits := fun _ => h

theorem halfCycleEvent_eventFits (m : Nat) (s : State) (h : s.eventFits) : (halfCycleEvent m s).eventFits := by
  unfold halfCycleEvent
  split
  · exact resumeTaking_eventFits _ _
  · exact h

theorem endTaking_eventFits (s : State) (h : s.eventFits) : (endTaking s).eventFits := by
  unfold endTaking
  split
  next ended => exact eventFits_of_untaken ended.2.1
  next => exact h

theorem goOn_eventFits (s : State) : (goOn s).eventFits := by
  unfold goOn
  split
  next => exact resumeTaking_eventFits _ _
  next some => exact fun none => absurd none some

theorem enterLost_eventFits (s : State) (h : s.eventFits) : (enterLost s).eventFits := by
  have event : (sparksOff (s.setBase (lostBase s.base))).event = s.event := by simp
  unfold enterLost
  dsimp only
  split
  · split
    · exact halfCycleEvent_eventFits _ _ (h.congr (by simp))
    · exact h.congr (by simp)
  · exact h.congr event

theorem takeCrossing_eventFits (m : Nat) (s : State) (h : s.eventFits) : (takeCrossing m s).eventFits := by
  unfold takeCrossing
  dsimp only
  split
  · exact h.congr rfl
  · split
    · unfold lockedCrossing
      dsimp only
      refine endTaking_eventFits _ ?_
      split
      · exact h.congr rfl
      · exact halfCycleEvent_eventFits _ _ (h.congr rfl)
    · unfold seekCrossing
      dsimp only
      split
      · exact fun due => by simp at due
      · exact h.congr rfl

theorem takeTimeout_eventFits (s : State) (h : s.eventFits) : (takeTimeout s).eventFits := by
  unfold takeTimeout
  split
  · exact h
  · split
    · exact enterLost_eventFits _ (h.congr rfl)
    · exact h

theorem takeFreeRun_eventFits (s : State) (h : s.eventFits) : (takeFreeRun s).eventFits := by
  unfold takeFreeRun
  split
  · exact h
  · split
    · exact halfCycleEvent_eventFits _ _ (h.congr rfl)
    · exact h

theorem withInputs_eventFits (inp : EventInputs) (s : State) (h : s.eventFits) : (withInputs inp s).eventFits := by
  unfold withInputs
  simpa [State.eventFits] using h

/-! ## Arrivals that make no event -/

/-- The commands of a crossing, a timeout and the free-run generator, which can make an event or have a lock due. -/
def makesEvents : Instr → Bool
  | .crossing _ _ | .lockTimeout _ | .freeRunDue _ => true
  | _ => false

theorem deliver_keeps {P : State → Prop} (k : NoticeKind) (f : RxFrame → State → State)
    (hf : ∀ fr u, u.active = true → P u → P (f fr u))
    (removed : ∀ u fr rest, u.dispatcher.fifo = fr :: rest → P u → P (u.setDispatcher { u.dispatcher with fifo := rest }))
    (s : State) (h : P s) : P (deliver k f s) := by
  unfold deliver
  split
  next taken =>
    have active : s.active = true := by simp only [Bool.and_eq_true] at taken; exact taken.1
    split
    · exact h
    next fr rest fifo =>
      split
      · exact hf fr _ active (removed s fr rest fifo h)
      · exact h
  next => exact h

theorem takeHandover_keeps {P : State → Prop} (k : ChannelKind) (f : Channel → Nat → State → State)
    (hf : ∀ c level u, P u → P (f c level u)) (handed : ∀ u c l, P u → P (u.setHandovers c l)) (c : Channel) (s : State) (h : P s) :
    P (takeHandover k f c s) := by
  unfold takeHandover
  split
  · split
    · exact h
    · exact hf c _ _ (handed s c _ h)
  · exact h

theorem takeChars_keeps {P : State → Prop} (char : ∀ ch u, P u → P (takeChar ch u)) (chars : List Byte) (s : State) (h : P s) :
    P (takeChars chars s) := by
  unfold takeChars
  induction chars generalizing s with
  | nil => exact h
  | cons b bs ih => exact ih _ (char _ s h)

/-- An arrival that makes no event leaves the event as it is, but for the start point and where a reset begins anew. -/
theorem arrival_event {R : EventWork → Prop} (reset : R EventWork.reset) (start : ∀ w, R w → R { w with startPoint := false })
    {c : Instr} {f : State → State} (h : arrival c = some f) (quiet : makesEvents c = false) (s : State) (hs : R s.event) :
    R (f s).event := by
  have delivered : ∀ k (g : RxFrame → State → State), (∀ fr u, R (State.event u) → R (g fr u).event) → R (deliver k g s).event :=
    fun k g hg => deliver_keeps (P := fun u => R u.event) k g (fun fr u _ hu => hg fr u hu) (fun _ _ _ _ hu => hu) s hs
  have masked : ∀ k g, (g = startOn ∨ g = holdOn ∨ g = resumeOn ∨ g = stopOn) → R (deliver k (takeMasked g) s).event := by
    intro k g hg
    refine delivered k _ fun fr u hu => ?_
    simpa [takeMasked_frame g fr u hg] using hu
  cases c <;> simp only [makesEvents, Bool.true_eq_false] at quiet <;> cases h
  case supplyLow v => unfold takeSupplyLow; split <;> simpa using hs
  case optionReadComplete m block => unfold takeOptionRead; split <;> simpa using hs
  case planComputationComplete => simpa using hs
  case sparkStartPoint p =>
    dsimp only
    split
    · unfold takeStartPoint
      split
      · simpa using start _ hs
      · exact hs
    · exact hs
  case frameStart p => dsimp only; (repeat' split) <;> simpa using hs
  case frameReceived chars => exact takeChars_keeps (P := fun u => R u.event) (fun ch u hu => by simpa using hu) chars s hs
  case rxGapTimeout => simpa using hs
  case resyncQuiet => simpa using hs
  case transmitAbort ch => unfold echoMismatch; (repeat' split) <;> simpa using hs
  case restart m =>
    refine delivered _ _ fun fr u hu => ?_
    unfold takeRestart
    split
    · exact reset
    · exact hu
  case start => exact masked _ _ (by simp)
  case hold => exact masked _ _ (by simp)
  case resume => exact masked _ _ (by simp)
  case stop => exact masked _ _ (by simp)
  case haltAssertion => unfold takeHalt; split <;> simpa using hs
  case haltInputRelease => exact hs
  case elementHandover c =>
    have handed := takeHandover_keeps (P := fun u => R u.event) .element takeElementLevel (fun c level u hu => by simpa using hu)
      (fun u c l hu => hu) c s hs
    simpa using handed
  case gasHandover c =>
    have handed := takeHandover_keeps (P := fun u => R u.event) .gas takeGasLevel (fun c level u hu => by simpa using hu)
      (fun u c l hu => hu) c s hs
    simpa using handed
  case opener => simpa using hs
  case framingError byte => simpa using hs
  all_goals exact delivered _ _ fun fr u hu => by simpa using hu

/-- An arrival at a node that has taken its event to the end makes a new event or leaves no taking behind. -/
theorem arrival_eventFits {c : Instr} {f : State → State} (h : arrival c = some f) (s : State) (due : s.event.due = none)
    (fits : s.eventFits) : (f s).eventFits := by
  cases quiet : makesEvents c
  case false =>
    exact eventFits_of_untaken (arrival_event (R := fun w => w.untaken = []) rfl (fun _ hw => hw) h quiet s (fits due))
  case true =>
    cases c <;> simp only [makesEvents, Bool.false_eq_true] at quiet <;> cases h
    case crossing m inp => exact takeCrossing_eventFits m _ (withInputs_eventFits inp s fits)
    case lockTimeout inp => exact takeTimeout_eventFits _ (withInputs_eventFits inp s fits)
    case freeRunDue inp => exact takeFreeRun_eventFits _ (withInputs_eventFits inp s fits)

/-- Every step leaves the event taken to its end or a step due. -/
theorem step_eventFits {s t : State} (h : s.eventFits) (e : step s = .next t) : t.eventFits := by
  refine step_keeps_settled (P := State.eventFits) ?_ ?_ ?_ ?_ ?_ s t h e
  · exact fun halt s _ => eventFits_of_untaken rfl
  · exact fun d s _ _ => goOn_eventFits _
  · exact fun c f hf s due fits => arrival_eventFits hf s due fits
  · exact fun s fits => fits.congr (by simp [lineRests_eq])
  · exact fun s q fits => fits.congr rfl

/-! ## The laws of the time base -/

/-- Settles O18: rate, generator and phase piece by piece of a step (`timeBaseLaws_kept`), the event by `step_eventFits`. -/
theorem everyStepKeepsTheTimeBaseLaws : Obligations.EveryStepKeepsTheTimeBaseLaws := by
  intro s t rate generator phase event e
  have queue : ∀ u q, State.timeBaseLaws u → (u.setPending q).timeBaseLaws := fun u q hu => hu.congr rfl rfl
  obtain ⟨rate', generator', phase'⟩ := timeBaseLaws_kept.step queue s t ⟨rate, generator, phase⟩ e
  exact ⟨rate', generator', phase', step_eventFits event e⟩

end Sys2Proof.Machine
end

section
/-!
PROOF. What the Gas Sequencer's operations make of a burner, one equation each: the layer that the statements about gas channels and the
guard of the outputs use.
-/

namespace Sys2Proof.Machine

/-! ## One burner of the four -/

/-- What holds of every channel's part after a change of one: the new part has it, and the others had it. -/
theorem forall_set_at {α : Type} {Q : Channel → α → Prop} {v : Vector α 4} (c : Channel) {x : α} (new : Q c x)
    (old : ∀ d : Channel, d ≠ c → Q d v[d]) : ∀ d : Channel, Q d (v.set c x)[d] := by
  intro d
  by_cases e : c.val = d.val
  · obtain rfl := Fin.ext e
    simpa using new
  · simpa [Vector.getElem_set_ne, e] using old d fun same => e (congrArg Fin.val same.symm)

/-- A property of every channel's part survives a change of one part that has it. -/
theorem forall_set {α : Type} {Q : α → Prop} {v : Vector α 4} (h : ∀ d : Channel, Q v[d]) (c : Channel) {x : α} (hx : Q x) :
    ∀ d : Channel, Q (v.set c x)[d] :=
  forall_set_at (Q := fun _ => Q) c hx fun d _ => h d

@[simp] theorem set_channel_self {α : Type} (v : Vector α 4) (c : Channel) : v.set c v[c] = v := by
  simp

/-! ## Shared pieces of the sequencer -/

@[simp] theorem strayTest_gas (c : Channel) (s : State) : (strayTest c s).gas =
    s.gas.set c { s.gas[c] with stray := s.gas[c].stray || s.gas[c].flame } := by
  have kept : ∀ g : GasSequencer, g.flame = false → { g with stray := g.stray || g.flame } = g := by
    rintro ⟨⟩ flame
    simp_all
  by_cases flame : s.gas[c.val].flame = false
  · refine Eq.trans ?_ (congrArg (fun g => s.gas.set c g) (kept s.gas[c.val] flame)).symm
    simp [strayTest, flame]
  · simp [strayTest, flame]

@[simp] theorem enterWaitSpark_gas (c : Channel) (s : State) : (enterWaitSpark c s).gas = s.gas.set c { s.gas[c] with
    heat := .waitSpark, countdown := none, stray := s.gas[c].stray || s.gas[c].flame } := by
  simp [enterWaitSpark]

@[simp] theorem enterLockout_gas (c : Channel) (f : FaultCode) (s : State) : (enterLockout c f s).gas = s.gas.set c { s.gas[c] with
    heat := .lockout, valve := false, spark := false, countdown := none } := by
  simp [enterLockout]

/-- The burner that a failed attempt leaves (R104). -/
def failedBurner (s : State) (g : GasSequencer) : GasSequencer :=
  if g.attempts + 1 < s.loader.options.attempts then
    { g with
      heat := .purge, valve := false, spark := false, attempts := g.attempts + 1
      countdown := some (windowOf .purge s.loader.options.purgeSeconds s) }
  else { g with heat := .lockout, valve := false, spark := false, attempts := g.attempts + 1, countdown := none }

@[simp] theorem failAttempt_gas (c : Channel) (s : State) :
    (failAttempt c s).gas = s.gas.set c (failedBurner s s.gas[c]) := by
  unfold failAttempt failedBurner
  dsimp only
  split <;> simp

/-- The burner that the loss of its spark key leaves (R111). -/
def keylessBurner (s : State) (g : GasSequencer) : GasSequencer :=
  match g.heat with
  | .ignite => failedBurner s g
  | .relightSpark => { g with heat := .relightWait, spark := false }
  | .off | .waitSpark | .proven | .relightWait | .purge | .lockout => g

theorem keyLost_gas (c : Channel) (s : State) :
    (keyLost c s).gas = if s.kind c = .gas then s.gas.set c (keylessBurner s s.gas[c]) else s.gas := by
  by_cases gas : s.kind c = .gas
  · cases heat : s.gas[c.val].heat <;> simp [keyLost, keylessBurner, gas, heat]
  · simp [keyLost, gas]

@[simp] theorem endWanting_gas (c : Channel) (s : State) : (endWanting c s).gas = s.gas.set c { s.gas[c] with
    heat := .off, valve := false, spark := false, countdown := none, stray := false } := by
  simp [endWanting]

/-- The burner that a handed level leaves (R102, R109, R110). -/
def handedBurner (level : Nat) (g : GasSequencer) : GasSequencer :=
  match g.heat with
  | .off =>
    if level = 0 then { g with level := level }
    else { g with level := level, heat := .waitSpark, attempts := 0, countdown := none, stray := g.stray || g.flame }
  | .lockout => { g with level := level }
  | .waitSpark | .ignite | .proven | .relightWait | .relightSpark | .purge =>
    if level = 0 then
      { g with level := level, heat := .off, valve := false, spark := false, countdown := none, stray := false }
    else { g with level := level }

@[simp] theorem takeGasLevel_gas (c : Channel) (level : Nat) (s : State) :
    (takeGasLevel c level s).gas = s.gas.set c (handedBurner level s.gas[c]) := by
  cases heat : s.gas[c.val].heat <;> by_cases off : level = 0 <;> simp [takeGasLevel, handedBurner, heat, off]

theorem clearLockout_gas (c : Channel) (s : State) : (clearLockout c s).gas =
    if lockedOut c s then s.gas.set c { s.gas[c] with heat := .off, attempts := 0, stray := false } else s.gas := by
  unfold clearLockout
  split <;> simp [*]

/-! ## Flame and countdown -/

/-- The burner whose debounced flame has appeared (R104, R107, R108). -/
def litBurner (g : GasSequencer) : GasSequencer :=
  match g.heat with
  | .ignite => { setStep g.level g with heat := .proven, spark := false, attempts := 0, countdown := none }
  | .relightWait | .relightSpark => { setStep g.level g with heat := .proven, spark := false, countdown := none }
  | .waitSpark => { g with stray := g.stray || g.flame }
  | .off | .proven | .purge | .lockout => g

@[simp] theorem flameAppears_gas (c : Channel) (s : State) :
    (flameAppears c s).gas = s.gas.set c (litBurner s.gas[c]) := by
  cases heat : s.gas[c.val].heat <;> simp [flameAppears, litBurner, heat]

/-- The burner whose debounced flame has gone (R106). -/
def unlitBurner (s : State) (g : GasSequencer) : GasSequencer :=
  match g.heat with
  | .proven =>
    { setStep s.loader.options.ignitionStep g with
      heat := .relightWait, countdown := some (windowOf .relight s.loader.options.relightSeconds s) }
  | .off | .waitSpark | .ignite | .relightWait | .relightSpark | .purge | .lockout => g

@[simp] theorem flameVanishes_gas (c : Channel) (s : State) :
    (flameVanishes c s).gas = s.gas.set c (unlitBurner s s.gas[c]) := by
  cases heat : s.gas[c.val].heat <;> simp [flameVanishes, unlitBurner, heat]

@[simp] theorem countDown_gas (c : Channel) (s : State) : (countDown c s).gas = s.gas.set c { s.gas[c] with
    countdown := s.gas[c].countdown.map fun w => { w with left := w.left - 1 } } := by
  have kept : ∀ g : GasSequencer, g.countdown = none →
      { g with countdown := g.countdown.map fun w => { w with left := w.left - 1 } } = g := by
    rintro ⟨⟩ none
    simp_all
  by_cases run : s.gas[c.val].countdown = none
  · refine Eq.trans ?_ (congrArg (fun g => s.gas.set c g) (kept s.gas[c.val] run)).symm
    simp [countDown, run]
  · obtain ⟨w, some⟩ := Option.ne_none_iff_exists'.mp run
    by_cases ends : w.left ≤ 1 <;> simp [countDown, some, ends]

@[simp] theorem setProvenStep_gas (c : Channel) (s : State) : (setProvenStep c s).gas = s.gas.set c
    (if s.gas[c].heat = .proven then setStep s.gas[c].level s.gas[c] else s.gas[c]) := by
  by_cases proven : s.gas[c.val].heat = .proven <;> simp [setProvenStep, proven]

/-- The burner after steps 2 and 3 of R95. -/
def restBurner (running : Bool) (g : GasSequencer) : GasSequencer :=
  let h := if running then { g with countdown := g.countdown.map fun w => { w with left := w.left - 1 } } else g
  if h.heat = .proven then setStep h.level h else h

@[simp] theorem sequencerRest_gas (c : Channel) (running : Bool) (s : State) :
    (sequencerRest c running s).gas = s.gas.set c (restBurner running s.gas[c]) := by
  unfold sequencerRest restBurner
  cases running <;> simp

/-- The disagreeing run after a flame sample (R94). -/
def sampledRun (c : Channel) (s : State) : Nat := if s.pins.sense[c] = s.gas[c].flame then 0 else s.gas[c].run + 1

/-- The sample makes the debounced flame change (R94): the fourth that differs in a row, the second where the flame is present. -/
def flameChanges (c : Channel) (s : State) : Bool :=
  s.pins.sense[c] != s.gas[c].flame && decide ((if s.gas[c].flame then 2 else 4) ≤ s.gas[c].run + 1)

/-- The flame's change is due at the fourth sample in a row that differs, at the second where the flame is present (R94). -/
theorem takeFlame_eq (c : Channel) (s : State) (gas : s.kind c = .gas) : takeFlame c s =
    if flameChanges c s then
      setDue (some (if s.gas[c].flame then .flameAbsent c else .flamePresent c)) (s.setGas c { s.gas[c] with run := sampledRun c s })
    else sequencerRest c s.gas[c].countdown.isSome (s.setGas c { s.gas[c] with run := sampledRun c s }) := by
  unfold takeFlame sampledRun flameChanges
  by_cases same : s.pins.sense[c] = s.gas[c].flame
  · simp only [gas, same, ne_eq, not_true_eq_false, bne_self_eq_false, Bool.false_and, Bool.false_eq_true, if_false, if_true]
  · simp only [gas, same, ne_eq, not_true_eq_false, bne_iff_ne, not_false_eq_true, Bool.and_eq_true, decide_eq_true_eq, true_and,
      if_false]
    rfl

/-- The burner that a start leaves (R101, R103, R107, R114). -/
def startedBurner (s : State) (g : GasSequencer) : GasSequencer :=
  match g.heat with
  | .waitSpark =>
    { setStep s.loader.options.ignitionStep g with
      heat := .ignite, spark := true, stray := false, valve := true
      countdown := some (windowOf .ignition s.loader.options.ignitionSeconds s) }
  | .relightWait => { g with heat := .relightSpark, spark := true }
  | .ignite | .relightSpark | .off | .proven | .purge | .lockout => { g with spark := true }

@[simp] theorem startSpark_gas (c : Channel) (s : State) :
    (startSpark c s).gas = s.gas.set c (startedBurner s s.gas[c]) := by
  cases heat : s.gas[c.val].heat <;> simp [startSpark, startedBurner, heat]

end Sys2Proof.Machine
end

section
/-!
PROOF. What the longer pieces of a step consist of: a property that their parts keep, they keep.
-/

namespace Sys2Proof.Machine

variable {P : State → Prop}

/-- A fold over the four channels keeps what each of its steps keeps. -/
theorem foldl_channels_keeps (g : State → Channel → State) (hg : ∀ s c, P s → P (g s c)) (s : State) (h : P s) :
    P (allChannels.foldl g s) := by
  simp only [allChannels, List.foldl_cons, List.foldl_nil]
  exact hg _ _ (hg _ _ (hg _ _ (hg _ _ h)))

theorem stopAll_keeps (stop : ∀ c s, P s → P (stopChannel c s)) (s : State) (h : P s) : P (stopAll s) := by
  refine foldl_channels_keeps _ (fun u c hu => ?_) s h
  split
  · exact stop c u hu
  · exact hu

theorem haltEffect_keeps (stop : P (stopAll s) → P (reporting stopAll s)) (raise : ∀ u, P u → P (raiseFlag .haltAll u))
    (stopped : P (stopAll s)) (h : P s) : P (haltEffect s) := by
  have first : P (if s.active then reporting stopAll s else s) := by
    split
    · exact stop stopped
    · exact h
  unfold haltEffect
  dsimp only
  split
  · exact raise _ first
  · exact first

/-- A character: the receiver, the end of a frame, and the echo comparator (R135 to R137, R144, R145). -/
theorem takeChar_keeps (receiver : ∀ s r, P s → P (s.setReceiver r)) (clash : ∀ s, P s → P (enterConfigFault s))
    (queue : ∀ f s, P s → P (queueFrame f s)) (checkError : ∀ s, P s → P (countCheckError s))
    (success : ∀ x s, P s → P (transmitSuccess x s)) (sent : ∀ n s, P s → P (s.setTx { s.tx with sent := some n }))
    (abort : ∀ s, P s → P (abortFrame s)) (ch : LineChar) (s : State) (h : P s) : P (takeChar ch s) := by
  have valid : ∀ f u, P u → P (validFrame f u) := by
    intro f u hu
    unfold validFrame
    split
    · exact clash u hu
    · exact queue f u hu
  have discard : ∀ n u, P u → P (discardFrame n u) := fun n u hu => checkError _ (receiver _ _ hu)
  have complete : ∀ l k o u, P u → P (completeFrame l k o u) := by
    intro l k o u hu
    unfold completeFrame
    dsimp only
    split
    · exact valid _ _ (receiver _ _ hu)
    · exact checkError _ (receiver _ _ hu)
  have frame : ∀ b o u, P u → P (frameChar b o u) := by
    intro b o u hu
    unfold frameChar
    dsimp only
    split
    · exact discard _ _ hu
    · split
      · exact receiver _ _ hu
      · split
        · exact discard _ _ hu
        · split
          · exact complete _ _ _ _ (receiver _ _ hu)
          · exact receiver _ _ hu
  have receive : ∀ o u, P u → P (receiveChar ch o u) := by
    intro o u hu
    unfold receiveChar
    split
    · split
      · exact receiver _ _ hu
      · exact hu
    · exact hu
    · split
      · exact discard _ _ hu
      · exact frame _ _ _ hu
  unfold takeChar
  dsimp only
  split
  · have heard := receiver s { s.receiver with
      lineBusy := busyAfter ch, heard := true, busySince := s.receiver.busySince || s.receiver.heard || busyAfter ch } h
    split
    · exact receive _ _ heard
    · split
      · split
        · exact receive _ _ (success _ _ heard)
        · exact receive _ _ (sent _ _ heard)
      · exact receive _ _ (abort _ heard)
  · exact h

/-- A delivered PRESENCE: the record and the derived values, the adoption, the restatements channel by channel (R119). -/
theorem takePresence_keeps (peers : ∀ s x, P s → P (s.setPeers x))
    (budget : ∀ s x, P s → P (s.setPlan { s.plan with budget := x }))
    (adopt : ∀ x y s, s.active = true → P s → P (adoptPhase x y s))
    (claim : ∀ st body s c, P s → P (restateClaim st body s c)) (spark : ∀ st body s c, P s → P (restateSpark st body s c))
    (f : RxFrame) (s : State) (active : s.active = true) (h : P s) : P (takePresence f s) := by
  have derived : ∀ u, P u → P (recomputeDerived u) := fun u hu => budget _ _ (peers u _ hu)
  have restate : ∀ st body u, P u → P (restateAll st body u) := fun st body u hu =>
    foldl_channels_keeps _ (spark st body) _ (foldl_channels_keeps _ (claim st body) u hu)
  unfold takePresence
  dsimp only
  split
  · split
    · exact restate _ _ _ (derived _ h)
    · exact h
  · have recorded : P (recomputeDerived (setRecord f.source (heardRecord f.source f.body) s)) := derived _ (peers s _ h)
    split
    · exact recorded
    · refine restate _ _ _ ?_
      split
      · exact adopt _ _ _ (by simpa [State.active] using active) recorded
      · exact recorded

end Sys2Proof.Machine
end

section
/-!
PROOF. No output is on outside the states that allow it (O51): a law of one burner or of one relay that the equations of the sequencers
and the drivers keep, at every channel.
-/

namespace Sys2Proof.Machine

/-! ## A law of the burners -/

/-- A law `Q` of one burner, of a node in RUN or not, that everything a sequencer does keeps. -/
structure BurnerLaw (Q : Bool → GasSequencer → Prop) : Prop where
  reset : ∀ latched, Q false { GasSequencer.reset with latched := latched }
  mono : ∀ run run' g, (run = true → run' = true) → Q run g → Q run' g
  dark : ∀ run run' g, Q run g → Q run' { g with valve := false, spark := false }
  sparkOff : ∀ run g, Q run g → Q run { g with spark := false }
  sensed : ∀ run g flame n, Q run g → Q run { g with flame := flame, run := n }
  handed : ∀ run g level, Q run g → Q run (handedBurner level g)
  waiting : ∀ run g stray, g.heat = .purge → Q run g → Q run { g with heat := .waitSpark, countdown := none, stray := stray }
  cleared : ∀ run g, g.heat = .lockout → Q run g → Q run { g with heat := .off, attempts := 0, stray := false }
  lockedOut : ∀ run g, Q run g → Q run { g with heat := .lockout, valve := false, spark := false, countdown := none }
  failed : ∀ run g s, Q run g → Q run (failedBurner s g)
  fallsBack : ∀ run g, g.heat = .relightSpark → Q run g → Q run { g with heat := .relightWait, spark := false }
  lit : ∀ run g, Q run g → Q run (litBurner g)
  unlit : ∀ run g s, Q run g → Q run (unlitBurner s g)
  rest : ∀ run g running, Q run g → Q run (restBurner running g)
  started : ∀ g s, mayStart g = true → Q true g → Q true (startedBurner s g)

/-- The law at all four burners of a node. -/
def State.burners (Q : Bool → GasSequencer → Prop) (s : State) : Prop := ∀ c : Channel, Q s.inRun s.gas[c]

section
variable {Q : Bool → GasSequencer → Prop}

theorem State.burners.congr {s t : State} (h : s.burners Q) (gas : t.gas = s.gas) (node : t.loader.node = s.loader.node)
    (held : t.loader.held = s.loader.held) : t.burners Q := by
  simpa only [State.burners, State.inRun, gas, node, held] using h

/-- One burner is changed in keeping with the law. -/
theorem State.burners.set {s t : State} (h : s.burners Q) {c : Channel} {g : GasSequencer} (gas : t.gas = s.gas.set c g)
    (loader : t.loader = s.loader) (kept : Q s.inRun s.gas[c] → Q s.inRun g) : t.burners Q := by
  have run : t.inRun = s.inRun := by rw [State.inRun, State.inRun, loader]
  unfold State.burners
  rw [run, gas]
  exact forall_set h c (kept (h c))

theorem outputsOff_burners (law : BurnerLaw Q) {s t : State} (h : s.burners Q) (gas : t.gas = (outputsOff s).gas) : t.burners Q := by
  intro c
  rw [gas, outputsOff_gas]
  exact law.dark _ _ _ (h c)

theorem dropKey_burners (law : BurnerLaw Q) (k : Key) {s : State} (h : s.burners Q) : (dropKey k s).burners Q := by
  have removed : (removeKey k s).burners Q := h.congr (by simp) (by simp) (by simp)
  unfold dropKey
  split
  · have gas := keyLost_gas k.channel (removeKey k s)
    split at gas
    · refine removed.set gas (by simp) fun hq => ?_
      unfold keylessBurner
      split
      · exact law.failed _ _ _ hq
      next heat => exact law.fallsBack _ _ heat hq
      all_goals exact hq
    · exact removed.congr gas (by simp) (by simp)
  · exact removed

theorem stopChannel_burners (law : BurnerLaw Q) (c : Channel) {s : State} (h : s.burners Q) : (stopChannel c s).burners Q := by
  unfold stopChannel
  split
  · exact h
  · have stopped : (updateProgram c (stoppedProgram s.programs[c]) s).burners Q := h.congr (by simp) (by simp) (by simp)
    have gas := clearLockout_gas c (updateProgram c (stoppedProgram s.programs[c]) s)
    split at gas
    next locked =>
      refine stopped.set gas (by simp) fun hq => law.cleared _ _ ?_ hq
      simp only [lockedOut, Bool.and_eq_true, beq_iff_eq] at locked
      exact locked.2
    next => exact stopped.congr gas (by simp) (by simp)

theorem sequencerRest_burners (law : BurnerLaw Q) (c : Channel) (running : Bool) {s : State} (h : s.burners Q) :
    (sequencerRest c running s).burners Q :=
  h.set (sequencerRest_gas c running s) (by simp) (law.rest _ _ _)

theorem takeFlame_burners (law : BurnerLaw Q) (c : Channel) {s : State} (h : s.burners Q) : (takeFlame c s).burners Q := by
  have sensed : ∀ n, (s.setGas c { s.gas[c] with run := n }).burners Q := fun n =>
    h.set rfl rfl (law.sensed s.inRun s.gas[c] s.gas[c].flame n)
  by_cases gas : s.kind c = .gas
  · rw [takeFlame_eq c s gas]
    split
    · exact (sensed (sampledRun c s)).congr (by simp) (by simp) (by simp)
    · exact sequencerRest_burners law c _ (sensed _)
  · rwa [takeFlame, if_pos gas]

theorem flamePresentStep_burners (law : BurnerLaw Q) (c : Channel) {s : State} (h : s.burners Q) :
    (flamePresentStep c s).burners Q := by
  have sensed : (s.setGas c { s.gas[c] with flame := true, run := 0 }).burners Q := h.set rfl rfl (law.sensed _ _ _ _)
  exact sequencerRest_burners law c _ (sensed.set (flameAppears_gas c _) (by simp) (law.lit _ _))

theorem flameAbsentStep_burners (law : BurnerLaw Q) (c : Channel) {s : State} (h : s.burners Q) :
    (flameAbsentStep c s).burners Q := by
  have sensed : (s.setGas c { s.gas[c] with flame := false, run := 0 }).burners Q := h.set rfl rfl (law.sensed _ _ _ _)
  exact sequencerRest_burners law c _ (sensed.set (flameVanishes_gas c _) (by simp) (law.unlit _ _ _))

theorem takeOne_burners (law : BurnerLaw Q) (x : Taking) (isTaking : x.isHandover = false) {s : State} (h : s.burners Q) :
    (takeOne x s).burners Q := by
  by_cases flame : ∃ c, x = .flame c
  · obtain ⟨c, rfl⟩ := flame
    exact takeFlame_burners law c h
  · refine h.congr (takeOne_gas x s (not_exists.mp flame) ?_) (by simp) (by simp)
    rintro c rfl
    simp [Taking.isHandover] at isTaking

theorem sparkPoint_burners (law : BurnerLaw Q) (busy : Bool) {s : State} (h : s.burners Q) : (sparkPoint busy s).burners Q := by
  unfold sparkPoint considerStart
  split
  · exact h
  · split
    · exact h
    · split
      · split
        · exact h.congr (by simp) (by simp) (by simp)
        · exact h
      · split
        · exact h
        · split
          · exact h.congr (by simp) (by simp) (by simp)
          next c _ enabled _ may _ =>
            have run : s.inRun = true := by
              by_contra none
              exact enabled (by simp [startEnabled, Bool.eq_false_iff.mpr none])
            refine h.set (startSpark_gas c s) (by simp) fun hq => ?_
            rw [run] at hq ⊢
            exact law.started _ _ (by simpa using may) hq

/-- Every piece of a step keeps a law of the burners. -/
theorem burners_kept (law : BurnerLaw Q) : StepKeeps (State.burners Q) where
  bookkeeping _ _ h := h
  pins _ _ h := h
  coldReset _ _ _ := by
    intro c
    have gas : State.reset.gas[c] = { GasSequencer.reset with latched := 1 } := by fin_cases c <;> rfl
    exact gas ▸ law.reset 1
  taking x _ isTaking h := (takeOne_burners law x isTaking h).congr (by simp) (by simp) (by simp)
  openEvent _ _ _ h := h.congr (by simp) (by simp) (by simp)
  locking _ h := h
  losing s h := by
    intro c
    have dark := law.sparkOff _ _ (h c)
    simpa [State.inRun, sparksOff] using dark
  generator _ _ _ _ h _ _ := h
  stamp _ _ h := h
  reference _ _ h := h
  running _ _ _ h := h
  judging _ _ _ h := h
  second _ _ h := h.congr (by simp) (by simp) (by simp)
  expiry _ _ h := h.congr (by simp) (by simp) (by simp)
  flamePresent c _ h := (flamePresentStep_burners law c h).congr (by simp) (by simp) (by simp)
  flameAbsent c _ h := (flameAbsentStep_burners law c h).congr (by simp) (by simp) (by simp)
  ignitionEnd c s h := by
    refine State.burners.congr (s := ignitionEndStep c s) ?_ (by simp) (by simp) (by simp)
    unfold ignitionEndStep
    split
    · exact h.set (failAttempt_gas c s) (by simp) (law.failed _ _ _)
    · exact h
  purgeEnd c s h := by
    refine State.burners.congr (s := purgeEndStep c s) ?_ (by simp) (by simp) (by simp)
    unfold purgeEndStep
    split
    next purge => exact h.set (enterWaitSpark_gas c s) (by simp) (law.waiting _ _ _ purge)
    next => exact h
  relightEnd c s h := by
    refine State.burners.congr (s := relightEndStep c s) ?_ (by simp) (by simp) (by simp)
    unfold relightEndStep
    split
    · exact h.set (g := { s.gas[c] with heat := .lockout, valve := false, spark := false, countdown := none }) (by simp) (by simp)
        (law.lockedOut _ _)
    · exact h
  holdLimit s h := by
    refine State.burners.congr (s := holdLimitStep s) ?_ (by simp) (by simp) (by simp)
    unfold holdLimitStep
    split
    · exact h
    · exact dropKey_burners law _ (h.congr (by simp) (by simp) (by simp))
  departure _ _ h := h.congr (by simp) (by simp) (by simp)
  enterRun s h := by
    intro c
    have run : s.inRun = true → (enterRun s).inRun = true := by
      simp only [State.inRun, enterRun, reportAllUsed_frame, raiseFlag_frame, State.loader_setPeers, State.loader_setLoader]
      simp +contextual
    simpa using law.mono _ _ _ run (h c)
  presenceDue _ h := h.congr (by simp) (by simp) (by simp)
  enterHold s h := outputsOff_burners law h rfl
  optionRead m block s h startUp := by
    unfold endOptionRead
    split
    · intro c
      have idle : s.inRun = false := by simp [State.inRun, startUp]
      simpa using law.mono _ _ _ (by simp [idle]) (h c)
    · exact outputsOff_burners law h rfl
  halt s h := by
    have stopped := stopAll_keeps (fun c u hu => stopChannel_burners law c hu) s h
    exact haltEffect_keeps (fun hu => hu.congr (by simp) (by simp) (by simp)) (fun u hu => hu.congr (by simp) (by simp) (by simp))
      stopped h
  plan _ h := h.congr (by simp) (by simp) (by simp)
  startPoint b _ _ h := (sparkPoint_burners law b h).congr (by simp) (by simp) (by simp)
  handover _ _ _ h := h
  elementLevel _ _ _ _ h := h.congr (by simp) (by simp) (by simp)
  elementLevelInEvent _ _ _ _ h := h.congr (by simp) (by simp) (by simp)
  gasLevel c l s _ h := (h.set (takeGasLevel_gas c l s) (by simp) (law.handed _ _ _)).congr (by simp) (by simp) (by simp)
  deferEnd _ _ h := h.congr (by simp) (by simp) (by simp)
  char ch s h := by
    refine takeChar_keeps ?_ ?_ ?_ ?_ ?_ ?_ ?_ ch s h
    · exact fun _ _ h => h
    · exact fun _ h => outputsOff_burners law h rfl
    · exact fun _ _ h => h.congr (by simp) (by simp) (by simp)
    · exact fun _ h => h.congr (by simp) (by simp) (by simp)
    · exact fun _ _ h => h.congr (by simp) (by simp) (by simp)
    · exact fun _ _ h => h
    · exact fun _ h => h.congr (by simp) (by simp) (by simp)
  line _ _ h := h.congr (by simp) (by simp) (by simp)
  gap _ h := h.congr (by simp) (by simp) (by simp)
  quiet _ h := h.congr (by simp) (by simp) (by simp)
  removed _ _ _ _ h := h
  presence f s active h := by
    refine State.burners.congr (s := takePresence f s) ?_ (by simp) (by simp) (by simp)
    refine takePresence_keeps ?_ ?_ ?_ ?_ ?_ f s active h
    · exact fun _ _ h => h
    · exact fun _ _ h => h
    · exact fun _ _ _ _ h => h.congr (by simp) (by simp) (by simp)
    · exact fun _ _ _ _ h => State.burners.congr h (by simp) (by simp) (by simp)
    · intro st body u c hu
      unfold restateSpark
      dsimp only
      split
      · split
        · exact hu
        · split <;> exact hu.congr (by simp) (by simp) (by simp)
      · exact dropKey_burners law _ hu
  claim _ _ _ h := h.congr (by simp) (by simp) (by simp)
  release _ _ _ h := h.congr (by simp) (by simp) (by simp)
  spark _ _ _ h := h.congr (by simp) (by simp) (by simp)
  sparkFree _ _ _ h := h.congr (by simp) (by simp) (by simp)
  program _ _ _ h := h.congr (by simp) (by simp) (by simp)
  masked g f s hg _ h := by
    unfold takeMasked
    split
    · refine State.burners.congr (s := onNamed f.body g s) ?_ (by simp) (by simp) (by simp)
      refine onNamed_keeps f.body g (fun c u hu => ?_) s h
      obtain rfl | rfl | rfl | rfl := hg
      case inr.inr.inr =>
        unfold stopOn
        split
        · exact hu.congr (by simp) (by simp) (by simp)
        · exact stopChannel_burners law c hu
      all_goals exact hu.congr (by simp) (by simp) (by simp)
    · exact h
  haltAll s _ h :=
    (stopAll_keeps (fun c u hu => stopChannel_burners law c hu) s h).congr (by simp) (by simp) (by simp)
  query _ _ _ h := h.congr (by simp) (by simp) (by simp)
  restart m f s _ h := by
    unfold takeRestart
    split
    · intro c
      have idle : (warmReset m s).inRun = false := rfl
      have gas : (warmReset m s).gas[c] = { GasSequencer.reset with latched := s.gas[c].latched } := by simp [warmReset]
      rw [idle, gas]
      exact law.reset _
    · exact h

end

end Sys2Proof.Machine
end

section
/-!
PROOF. What the Element Driver's operations make of a driver, one equation each, and the guard of the outputs (O51).
-/

namespace Sys2Proof.Machine

/-! ## The Element Driver's operations -/

@[simp] theorem standingRelease_kept (c : Channel) (s : State) : (standingRelease c s).elements = s.elements := by simp

@[simp] theorem leaveShare_elements (c : Channel) (heat : ElementHeat) (s : State) : (leaveShare c heat s).elements =
    s.elements.set c { s.elements[c] with heat := heat, relay := false } := by
  simp [leaveShare]

/-- The heat state in which a level above 0 finds its driver wanting heat (R77). -/
def wantingHeat (c : Channel) (s : State) (e : ElementDriver) : ElementHeat :=
  if s.loader.options.channels[c].demandUsed && !e.demand then .satisfied else .claiming

@[simp] theorem startWanting_elements (c : Channel) (s : State) : (startWanting c s).elements =
    s.elements.set c { s.elements[c] with heat := wantingHeat c s s.elements[c] } := by
  unfold startWanting wantingHeat
  split <;> simp

/-- The driver that a handed level leaves (R77 to R80). -/
def handedDriver (c : Channel) (level : Nat) (s : State) (e : ElementDriver) : ElementDriver :=
  if level = 0 then { e with heat := .off, level := 0, claim := none, relay := e.relay && !asksClaim e.heat }
  else { e with
    level := level, claim := some (claimContent c level s), heat := if e.heat = .off then wantingHeat c s e else e.heat }

@[simp] theorem takeElementLevel_elements (c : Channel) (level : Nat) (s : State) :
    (takeElementLevel c level s).elements = s.elements.set c (handedDriver c level s s.elements[c]) := by
  by_cases none : level = 0
  · cases heat : s.elements[c.val].heat <;> simp [takeElementLevel, handedDriver, none, heat, asksClaim]
  · cases heat : s.elements[c.val].heat <;>
      simp [takeElementLevel, handedDriver, none, heat, wantingHeat, apply_ite State.elements]

/-- The driver that a placement result leaves (R84). -/
def movedDriver (r : SwapResult) (e : ElementDriver) : ElementDriver :=
  if asksClaim e.heat then
    match r with
    | .admitted => { e with heat := .admitted }
    | .shed => { e with heat := .shed, relay := false }
    | .stays => e
  else e

@[simp] theorem applyResult_elements (c : Channel) (r : SwapResult) (s : State) :
    (applyResult c r s).elements = s.elements.set c (movedDriver r s.elements[c]) := by
  unfold applyResult movedDriver
  split
  · cases r <;> simp
  · simp

theorem takeHanded_some (c : Channel) (r : SwapResult) (s : State) (handed : s.event.results[c] = some r) :
    takeHanded c s = applyResult c r (s.setEvent { s.event with results := s.event.results.set c none }) := by
  unfold takeHanded
  rw [handed]

/-- The driver that a demand sample leaves (R81, R82). -/
def sampledDriver (active : Bool) (e : ElementDriver) : ElementDriver :=
  match e.heat, active with
  | .satisfied, true => { e with demand := true, heat := .claiming }
  | .claiming, false | .admitted, false | .shed, false => { e with demand := false, heat := .satisfied, relay := false }
  | .off, _ | .satisfied, false | .claiming, true | .admitted, true | .shed, true => { e with demand := active }

@[simp] theorem sampleDemand_elements (c : Channel) (active : Bool) (s : State) :
    (sampleDemand c active s).elements = s.elements.set c (sampledDriver active s.elements[c]) := by
  cases active <;> cases heat : s.elements[c.val].heat <;> simp [sampleDemand, sampledDriver, heat]

@[simp] theorem takeRelay_elements (c : Channel) (s : State) (element : s.kind c = .element) : (takeRelay c s).elements =
    s.elements.set c { s.elements[c] with relay := relayCloses c (takeSwap s) } := by
  have kind : (takeSwap s).kind c = .element := by simpa [State.kind] using element
  simp [takeRelay, kind]

/-! ## The law of the relays (R86, R90) -/

/-- A driver keeps its relay closed only while ADMITTED, in a node in RUN. -/
def relayFits (run : Bool) (e : ElementDriver) : Prop := e.relay = true → e.heat = .admitted ∧ run = true

theorem relayFits_handedDriver (run : Bool) (c : Channel) (level : Nat) (s : State) (e : ElementDriver) (h : relayFits run e) :
    relayFits run (handedDriver c level s e) := by
  unfold handedDriver
  split
  · intro closed
    obtain ⟨relay, quiet⟩ : e.relay = true ∧ asksClaim e.heat = false := by simpa using closed
    rw [(h relay).1] at quiet
    exact absurd quiet (by decide)
  · intro relay
    obtain ⟨heat, inRun⟩ := h relay
    exact ⟨by simp [heat], inRun⟩

theorem relayFits_movedDriver (run : Bool) (r : SwapResult) (e : ElementDriver) (h : relayFits run e) :
    relayFits run (movedDriver r e) := by
  unfold movedDriver
  split
  · cases r
    case admitted => exact fun relay => ⟨rfl, (h relay).2⟩
    case shed => exact fun relay => absurd relay (by simp)
    case stays => exact h
  · exact h

theorem relayFits_sampledDriver (run active : Bool) (e : ElementDriver) (h : relayFits run e) :
    relayFits run (sampledDriver active e) := by
  unfold sampledDriver
  split
  case h_1 _ satisfied => exact fun relay => absurd ((h relay).1.symm.trans satisfied) (by decide)
  case h_2 | h_3 | h_4 => exact fun relay => absurd relay (by simp)
  all_goals exact h

theorem admitted_of_relayCloses (c : Channel) (s : State) (h : relayCloses c s = true) :
    s.elements[c].heat = .admitted ∧ s.inRun = true := by
  simp only [relayCloses, Bool.and_eq_true, beq_iff_eq] at h
  obtain ⟨⟨⟨admitted, -⟩, -⟩, inRun⟩ := h
  exact ⟨admitted, inRun⟩

/-- The law at all four drivers of a node. -/
def State.relays (s : State) : Prop := ∀ c : Channel, relayFits s.inRun s.elements[c]

theorem State.relays.congr {s t : State} (h : s.relays) (elements : t.elements = s.elements)
    (node : t.loader.node = s.loader.node) (held : t.loader.held = s.loader.held) : t.relays := by
  simpa only [State.relays, State.inRun, elements, node, held] using h

theorem State.relays.set {s t : State} (h : s.relays) {c : Channel} {e : ElementDriver} (elements : t.elements = s.elements.set c e)
    (loader : t.loader = s.loader) (kept : relayFits s.inRun s.elements[c] → relayFits s.inRun e) : t.relays := by
  have run : t.inRun = s.inRun := by rw [State.inRun, State.inRun, loader]
  unfold State.relays
  rw [run, elements]
  exact forall_set h c (kept (h c))

theorem relays_of_open {s : State} (h : ∀ c : Channel, s.elements[c].relay = false) : s.relays := by
  intro c closed
  rw [h c] at closed
  cases closed

theorem outputsOff_relays {s t : State} (elements : t.elements = (outputsOff s).elements) : t.relays := by
  refine relays_of_open fun c => ?_
  rw [elements, outputsOff_elements]

theorem takeHanded_relays (c : Channel) {s : State} (h : s.relays) : (takeHanded c s).relays := by
  unfold takeHanded
  split
  · exact h
  · exact h.set (applyResult_elements c _ _) (by simp) (relayFits_movedDriver _ _ _)

theorem takeElementLevel_relays (c : Channel) (level : Nat) {s : State} (h : s.relays) : (takeElementLevel c level s).relays :=
  h.set (takeElementLevel_elements c level s) (by simp) (relayFits_handedDriver _ _ _ _ _)

theorem takeOne_relays (x : Taking) (isTaking : x.isHandover = false) {s : State} (h : s.relays) : (takeOne x s).relays := by
  have swapped : (takeSwap s).relays := h.congr (by simp) (by simp) (by simp)
  cases x
  case result c => exact takeHanded_relays c swapped
  case sample c =>
    unfold takeOne takeSample
    dsimp only
    split
    · exact h
    · exact (takeHanded_relays c h).set (sampleDemand_elements c _ _) (by simp) (relayFits_sampledDriver _ _ _)
  case relay c =>
    by_cases element : s.kind c = .element
    · refine h.set (takeRelay_elements c s element) (by simp [takeOne]) fun _ closed => ?_
      simpa [State.inRun] using admitted_of_relayCloses c (takeSwap s) closed
    · have kind : (takeSwap s).kind c ≠ .element := by simpa [State.kind] using element
      simpa [takeOne, takeRelay, kind] using swapped
  case handover c => simp [Taking.isHandover] at isTaking
  all_goals exact h.congr (by simp [takeOne]) (by simp) (by simp)

theorem relays_reset (s : State) (elements : s.elements = State.reset.elements) : s.relays := by
  refine relays_of_open fun c => ?_
  rw [elements]
  fin_cases c <;> rfl

/-- Every piece of a step keeps the law of the relays. -/
theorem relays_kept : StepKeeps State.relays where
  bookkeeping _ _ h := h
  pins _ _ h := h
  coldReset _ _ _ := relays_reset _ rfl
  taking x _ isTaking h := (takeOne_relays x isTaking h).congr (by simp) (by simp) (by simp)
  openEvent _ _ _ h := h.congr (by simp) (by simp) (by simp)
  locking _ h := h
  losing _ h := h.congr (by simp) (by simp) (by simp)
  generator _ _ _ _ h _ _ := h
  stamp _ _ h := h
  reference _ _ h := h
  running _ _ _ h := h
  judging _ _ _ h := h
  second _ _ h := h.congr (by simp) (by simp) (by simp)
  expiry _ _ h := h.congr (by simp) (by simp) (by simp)
  flamePresent _ _ h := h.congr (by simp) (by simp) (by simp)
  flameAbsent _ _ h := h.congr (by simp) (by simp) (by simp)
  ignitionEnd _ _ h := h.congr (by simp) (by simp) (by simp)
  purgeEnd _ _ h := h.congr (by simp) (by simp) (by simp)
  relightEnd _ _ h := h.congr (by simp) (by simp) (by simp)
  holdLimit _ h := h.congr (by simp) (by simp) (by simp)
  departure _ _ h := h.congr (by simp) (by simp) (by simp)
  enterRun s h := by
    intro c relay
    obtain ⟨admitted, run⟩ := h c (by simpa using relay)
    have notHeld : s.loader.held = false := by
      simp only [State.inRun, Bool.and_eq_true, Bool.not_eq_true'] at run
      exact run.1
    exact ⟨by simpa using admitted, by simp [State.inRun, enterRun, notHeld]⟩
  presenceDue _ h := h.congr (by simp) (by simp) (by simp)
  enterHold _ _ := outputsOff_relays rfl
  optionRead m block s h startUp := by
    unfold endOptionRead
    split
    · intro c relay
      obtain ⟨-, run⟩ := h c (by simpa using relay)
      simp [State.inRun, startUp] at run
    · exact outputsOff_relays rfl
  halt _ h := h.congr (by simp) (by simp) (by simp)
  plan _ h := h.congr (by simp) (by simp) (by simp)
  startPoint _ _ _ h := h.congr (by simp) (by simp) (by simp)
  handover _ _ _ h := h
  elementLevel c l _ _ h := (takeElementLevel_relays c l h).congr (by simp) (by simp) (by simp)
  elementLevelInEvent c l _ _ h := (takeElementLevel_relays c l (takeHanded_relays c h)).congr (by simp) (by simp) (by simp)
  gasLevel _ _ _ _ h := h.congr (by simp) (by simp) (by simp)
  deferEnd _ _ h := h.congr (by simp) (by simp) (by simp)
  char ch s h := by
    refine takeChar_keeps ?_ ?_ ?_ ?_ ?_ ?_ ?_ ch s h
    · exact fun _ _ h => h
    · exact fun _ _ => outputsOff_relays rfl
    · exact fun _ _ h => h.congr (by simp) (by simp) (by simp)
    · exact fun _ h => h.congr (by simp) (by simp) (by simp)
    · exact fun _ _ h => h.congr (by simp) (by simp) (by simp)
    · exact fun _ _ h => h
    · exact fun _ h => h.congr (by simp) (by simp) (by simp)
  line _ _ h := h.congr (by simp) (by simp) (by simp)
  gap _ h := h.congr (by simp) (by simp) (by simp)
  quiet _ h := h.congr (by simp) (by simp) (by simp)
  removed _ _ _ _ h := h
  presence f s active h := by
    refine State.relays.congr (s := takePresence f s) ?_ (by simp) (by simp) (by simp)
    refine takePresence_keeps ?_ ?_ ?_ ?_ ?_ f s active h
    · exact fun _ _ h => h
    · exact fun _ _ h => h
    · intro x y u _ hu
      unfold adoptPhase
      dsimp only
      split
      · exact hu
      · refine relays_of_open fun c => ?_
        simp [clearMaps, openRelays]
    · exact fun _ _ _ _ h => State.relays.congr h (by simp) (by simp) (by simp)
    · exact fun _ _ _ _ h => State.relays.congr h (by simp) (by simp) (by simp)
  claim _ _ _ h := h.congr (by simp) (by simp) (by simp)
  release _ _ _ h := h.congr (by simp) (by simp) (by simp)
  spark _ _ _ h := h.congr (by simp) (by simp) (by simp)
  sparkFree _ _ _ h := h.congr (by simp) (by simp) (by simp)
  program _ _ _ h := h.congr (by simp) (by simp) (by simp)
  masked g f s hg _ h := by
    obtain ⟨-, elements, -, -, -, -, -, loader, -⟩ := takeMasked_frame g f s hg
    exact h.congr elements (by rw [loader]) (by rw [loader])
  haltAll _ _ h := h.congr (by simp) (by simp) (by simp)
  query _ _ _ h := h.congr (by simp) (by simp) (by simp)
  restart m f s _ h := by
    unfold takeRestart
    split
    · exact relays_reset _ (by simp [warmReset])
    · exact h

/-! ## Valves, sparks and countdowns -/

/-- R93, R101: a burner's valve and spark are on only in the heat states that allow it, in a node in RUN. -/
def burnerGuarded (run : Bool) (g : GasSequencer) : Prop :=
  (g.valve = true → valveState g.heat = true ∧ run = true) ∧
  (g.spark = true → (g.heat = .ignite ∨ g.heat = .relightSpark) ∧ run = true)

/-- R92: a burner's countdown is of the kind of its heat state. -/
def burnerTimed (g : GasSequencer) : Prop :=
  g.countdown.map Countdown.window = match g.heat with
    | .ignite => some .ignition
    | .purge => some .purge
    | .relightWait | .relightSpark => some .relight
    | .off | .waitSpark | .proven | .lockout => none

/-- No heat state but the four with a flame to light or to keep lets a valve or a spark be on. -/
theorem dark_of_guarded {run : Bool} {g : GasSequencer} (h : burnerGuarded run g) (shut : valveState g.heat = false) :
    g.valve = false ∧ g.spark = false := by
  obtain ⟨valve, spark⟩ := h
  refine ⟨?_, ?_⟩ <;> by_contra on
  · have := (valve (by simpa using on)).1
    simp [shut] at this
  · obtain ⟨heat | heat, -⟩ := spark (by simpa using on) <;> simp [heat, valveState] at shut

theorem guarded_of_dark (run : Bool) {g : GasSequencer} (valve : g.valve = false) (spark : g.spark = false) : burnerGuarded run g :=
  ⟨fun on => absurd (valve.symm.trans on) (by decide), fun on => absurd (spark.symm.trans on) (by decide)⟩

/-- With valve and spark as they are, only the heat state of a lit burner matters. -/
theorem burnerGuarded.congr {run : Bool} {g g' : GasSequencer} (h : burnerGuarded run g) (heat : g'.heat = g.heat)
    (valve : g'.valve = g.valve) (spark : g'.spark = g.spark) : burnerGuarded run g' := by
  simpa only [burnerGuarded, heat, valve, spark] using h

/-- A burner with the spark off may go from a heat state to another that keeps the valve open. -/
theorem burnerGuarded.sparkless {run : Bool} {g g' : GasSequencer} (h : burnerGuarded run g) (valve : g'.valve = g.valve)
    (spark : g'.spark = false) (heat : valveState g.heat = true → valveState g'.heat = true) : burnerGuarded run g' := by
  refine ⟨fun on => ?_, fun on => absurd (spark.symm.trans on) (by decide)⟩
  obtain ⟨isOpen, inRun⟩ := h.1 (by rwa [valve] at on)
  exact ⟨heat isOpen, inRun⟩

theorem guarded_law : BurnerLaw burnerGuarded where
  reset _ := guarded_of_dark _ rfl rfl
  mono run run' g imp h := ⟨fun on => ⟨(h.1 on).1, imp (h.1 on).2⟩, fun on => ⟨(h.2 on).1, imp (h.2 on).2⟩⟩
  dark _ run' _ _ := guarded_of_dark run' rfl rfl
  sparkOff _ _ h := h.sparkless rfl rfl id
  sensed _ _ _ _ h := h.congr rfl rfl rfl
  handed run g level h := by
    by_cases zero : level = 0
    · cases heat : g.heat <;> simp only [handedBurner, heat, if_pos zero]
      case off | lockout => exact h.congr (by simp [heat]) rfl rfl
      all_goals exact guarded_of_dark run rfl rfl
    · cases heat : g.heat <;> simp only [handedBurner, heat, if_neg zero]
      case off =>
        obtain ⟨valve, spark⟩ := dark_of_guarded h (by rw [heat]; rfl)
        exact guarded_of_dark run valve spark
      all_goals exact h.congr (by simp [heat]) rfl rfl
  waiting run g stray purge h := by
    obtain ⟨valve, spark⟩ := dark_of_guarded h (by rw [purge]; rfl)
    exact guarded_of_dark run valve spark
  cleared run g lockout h := by
    obtain ⟨valve, spark⟩ := dark_of_guarded h (by rw [lockout]; rfl)
    exact guarded_of_dark run valve spark
  lockedOut run _ _ := guarded_of_dark run rfl rfl
  failed run g s _ := by
    unfold failedBurner
    split <;> exact guarded_of_dark run rfl rfl
  fallsBack _ _ _ h := h.sparkless rfl rfl fun _ => rfl
  lit run g h := by
    cases heat : g.heat <;> simp only [litBurner, heat]
    case ignite | relightWait | relightSpark => exact h.sparkless rfl rfl fun _ => rfl
    all_goals exact h.congr (by simp [heat]) rfl rfl
  unlit run g s h := by
    cases heat : g.heat <;> simp only [unlitBurner, heat]
    case proven =>
      refine h.sparkless rfl ?_ fun _ => rfl
      by_contra on
      obtain ⟨lit | lit, -⟩ := h.2 (by simpa using on) <;> rw [heat] at lit <;> cases lit
    all_goals exact h.congr (by simp [heat]) rfl rfl
  rest run g running h := by
    unfold restBurner
    dsimp only
    (repeat' split) <;> exact h.congr rfl rfl rfl
  started g s may h := by
    cases heat : g.heat <;> simp only [startedBurner, heat]
    case waitSpark => exact ⟨fun _ => ⟨rfl, rfl⟩, fun _ => ⟨.inl rfl, rfl⟩⟩
    case relightWait => exact ⟨fun _ => ⟨rfl, rfl⟩, fun _ => ⟨.inr rfl, rfl⟩⟩
    case ignite => exact ⟨fun _ => ⟨rfl, rfl⟩, fun _ => ⟨.inl rfl, rfl⟩⟩
    case relightSpark => exact ⟨fun _ => ⟨rfl, rfl⟩, fun _ => ⟨.inr rfl, rfl⟩⟩
    all_goals simp [mayStart, heat] at may

theorem burnerTimed.congr {g g' : GasSequencer} (h : burnerTimed g) (heat : g'.heat = g.heat)
    (countdown : g'.countdown.map Countdown.window = g.countdown.map Countdown.window) : burnerTimed g' := by
  simpa only [burnerTimed, heat, countdown] using h

theorem timed_law : BurnerLaw fun _ => burnerTimed where
  reset _ := rfl
  mono _ _ _ _ h := h
  dark _ _ _ h := h
  sparkOff _ _ h := h
  sensed _ _ _ _ h := h
  handed run g level h := by
    by_cases zero : level = 0
    · cases heat : g.heat <;> simp only [handedBurner, heat, if_pos zero]
      case off | lockout => exact h.congr (by simp [heat]) rfl
      all_goals rfl
    · cases heat : g.heat <;> simp only [handedBurner, heat, if_neg zero]
      case off => rfl
      all_goals exact h.congr (by simp [heat]) rfl
  waiting _ _ _ _ _ := rfl
  cleared run g lockout h := by
    have none : g.countdown.map Countdown.window = none := by simpa [burnerTimed, lockout] using h
    exact none
  lockedOut _ _ _ := rfl
  failed run g s _ := by
    unfold failedBurner
    split <;> rfl
  fallsBack run g relight h := by
    have window : g.countdown.map Countdown.window = some .relight := by simpa [burnerTimed, relight] using h
    exact window
  lit run g h := by
    cases heat : g.heat <;> simp only [litBurner, heat]
    case ignite | relightWait | relightSpark => rfl
    all_goals exact h.congr (by simp [heat]) rfl
  unlit run g s h := by
    cases heat : g.heat <;> simp only [unlitBurner, heat]
    case proven => rfl
    all_goals exact h.congr (by simp [heat]) rfl
  rest run g running h := by
    have kept : (g.countdown.map fun w => { w with left := w.left - 1 }).map Countdown.window = g.countdown.map Countdown.window := by
      cases g.countdown <;> rfl
    unfold restBurner
    dsimp only
    (repeat' split) <;> first | exact h.congr rfl kept | exact h
  started g s may h := by
    cases heat : g.heat <;> simp only [startedBurner, heat]
    case waitSpark => rfl
    case relightWait =>
      have window : g.countdown.map Countdown.window = some .relight := by simpa [burnerTimed, heat] using h
      exact window
    all_goals exact h.congr (by simp [heat]) rfl

/-! ## The guard of the outputs -/

theorem outputsSafe_iff (s : State) : s.outputsSafe ↔ s.burners burnerGuarded ∧ s.relays := by
  simp only [State.outputsSafe, State.valvesGuarded, State.sparksGuarded, State.relaysGuarded, State.burners, burnerGuarded,
    State.relays, relayFits]
  constructor
  · rintro ⟨valves, sparks, relays⟩
    exact ⟨fun c => ⟨valves c, sparks c⟩, relays⟩
  · rintro ⟨burners, relays⟩
    exact ⟨fun c => (burners c).1, fun c => (burners c).2, relays⟩

/-- Settles O51: piece by piece of a step, a law of one burner (`guarded_law`, `timed_law`) or of one relay (`relays_kept`). -/
theorem outputsStayGuarded : Obligations.OutputsStayGuarded := by
  refine ⟨fun s t safe e => ?_, fun s t timed e => ?_⟩
  · rw [outputsSafe_iff] at safe ⊢
    exact ⟨(burners_kept guarded_law).step (fun u q hu => hu.congr rfl rfl rfl) s t safe.1 e,
      relays_kept.step (fun u q hu => hu.congr rfl rfl rfl) s t safe.2 e⟩
  · exact (burners_kept timed_law).step (fun u q hu => hu.congr rfl rfl rfl) s t timed e

end Sys2Proof.Machine
end

section
/-!
PROOF. The program records keep their relations (R20, R21): what each operation of a Zone Program Unit makes of one record.
-/

namespace Sys2Proof.Machine

/-! ## One record -/

/-- A record of a channel of kind `k` with its ranges in order, all but the time of its current stage. -/
def recordRanges (k : ChannelKind) (p : Program) : Prop :=
  p.index < p.stageCount ∧ p.stageCount ≤ 6 ∧ p.repeatsDone ≤ p.repeatLimit ∧ p.repeatLimit ≤ 15 ∧
  ∀ i : Fin 6, ∀ st, p.stages[i] = some st → stageFits k st

/-- A record between two seconds: it fits its channel, has time left, and counts a second that is not complete. -/
def calmRecord (k : ChannelKind) (p : Program) : Prop := recordFits k p ∧ timeLeft p ∧ p.subSecond < 120

theorem recordRanges_of_fits {k : ChannelKind} {p : Program} (h : recordFits k p) : recordRanges k p := by
  obtain ⟨index, count, repeats, limit, -, -, stages⟩ := h
  exact ⟨index, count, repeats, limit, stages⟩

/-- A record with no time gone is calm, whatever its state. -/
theorem calmRecord_of_fresh {k : ChannelKind} {p : Program} (h : recordRanges k p) (elapsed : p.elapsed = 0) (sub : p.subSecond < 120) :
    calmRecord k p := by
  obtain ⟨index, count, repeats, limit, stages⟩ := h
  refine ⟨⟨index, count, repeats, limit, by omega, fun st _ _ => by omega, stages⟩, fun _ _ st _ duration => ?_, sub⟩
  rw [elapsed]
  exact Nat.pos_of_ne_zero duration

theorem currentStage_congr {p q : Program} (index : q.index = p.index) (stages : q.stages = p.stages) :
    currentStage q = currentStage p := by
  simp only [currentStage, index, stages]

theorem currentStage_fits {k : ChannelKind} {p : Program} (h : ∀ i : Fin 6, ∀ st, p.stages[i] = some st → stageFits k st) {st : Stage}
    (current : currentStage p = some st) : stageFits k st := by
  unfold currentStage at current
  rcases bound : p.stages[p.index]? with _ | x
  · simp [bound] at current
  · obtain rfl : x = some st := by simpa [bound] using current
    obtain ⟨small, stage⟩ := Vector.getElem?_eq_some_iff.mp bound
    exact h ⟨p.index, small⟩ st stage

/-- A change that keeps stages, counts and time keeps the record's relations. -/
theorem recordFits.congr {k : ChannelKind} {p q : Program} (h : recordFits k p) (count : q.stageCount = p.stageCount)
    (stages : q.stages = p.stages) (limit : q.repeatLimit = p.repeatLimit) (index : q.index = p.index)
    (repeats : q.repeatsDone = p.repeatsDone) (elapsed : q.elapsed = p.elapsed) : recordFits k q := by
  simpa only [recordFits, count, stages, limit, index, repeats, elapsed, currentStage_congr index stages] using h

/-- A record that times no stage is calm when its ranges are in order. -/
theorem calmRecord.stilled {k : ChannelKind} {p q : Program} (h : calmRecord k p) (count : q.stageCount = p.stageCount)
    (stages : q.stages = p.stages) (limit : q.repeatLimit = p.repeatLimit) (index : q.index = p.index)
    (repeats : q.repeatsDone = p.repeatsDone) (elapsed : q.elapsed = p.elapsed) (sub : q.subSecond = p.subSecond)
    (still : q.state = .running ∨ q.state = .held → (p.state = .running ∨ p.state = .held) ∧ p.alert = q.alert) :
    calmRecord k q := by
  obtain ⟨fits, time, second⟩ := h
  refine ⟨fits.congr count stages limit index repeats elapsed, fun timing alert st current duration => ?_, by rwa [sub]⟩
  obtain ⟨timed, alert'⟩ := still timing
  rw [elapsed]
  exact time timed (alert'.trans alert) st (by rwa [currentStage_congr index stages] at current) duration

/-! ## End actions -/

theorem calmRecord_endOff {k : ChannelKind} {p : Program} {st : Stage} (h : recordRanges k p) (sub : p.subSecond < 120)
    (current : currentStage p = some st) : calmRecord k (endOff st p) := by
  obtain ⟨index, count, repeats, limit, stages⟩ := h
  obtain ⟨-, -, duration, -⟩ := currentStage_fits stages current
  refine ⟨⟨index, count, repeats, limit, duration, fun x same _ => ?_, stages⟩, fun timing => ?_, sub⟩
  · rw [show currentStage (endOff st p) = currentStage p from rfl, current] at same
    cases same
    exact Nat.le_refl _
  · simp [endOff] at timing

theorem calmRecord_endKeep {k : ChannelKind} {p : Program} {st : Stage} (h : recordRanges k p) (sub : p.subSecond < 120)
    (current : currentStage p = some st) : calmRecord k (endKeep st p) := by
  obtain ⟨index, count, repeats, limit, stages⟩ := h
  obtain ⟨-, -, duration, -⟩ := currentStage_fits stages current
  refine ⟨⟨index, count, repeats, limit, duration, fun x same _ => ?_, stages⟩, fun _ alert => ?_, sub⟩
  · rw [show currentStage (endKeep st p) = currentStage p from rfl, current] at same
    cases same
    exact Nat.le_refl _
  · simp [endKeep] at alert

/-- The end action of a stage leaves a calm record, however long the stage was timed. -/
theorem calmRecord_carryEnd {k : ChannelKind} {p : Program} {st : Stage} (h : recordRanges k p) (sub : p.subSecond < 120)
    (current : currentStage p = some st) : calmRecord k (carryEnd st p) := by
  have off := calmRecord_endOff h sub current
  obtain ⟨index, count, repeats, limit, stages⟩ := h
  unfold carryEnd
  cases st.action
  case next =>
    simp only [endNext]
    split
    next more =>
      simp only [Bool.and_eq_true, decide_eq_true_eq] at more
      exact calmRecord_of_fresh ⟨more.1, count, repeats, limit, stages⟩ rfl (by simp)
    next => exact off
  case off => exact off
  case again =>
    simp only [endRepeat]
    split
    next left => exact calmRecord_of_fresh ⟨by simp only; omega, count, left, limit, stages⟩ rfl (by simp)
    next => exact off
  case keep => exact calmRecord_endKeep ⟨index, count, repeats, limit, stages⟩ sub current

/-! ## A PROGRAM -/

theorem stageFits_of_valid {k : ChannelKind} {st : Stage} (h : stageValid k st = true) : stageFits k st := by
  simp only [stageValid, Bool.and_eq_true, decide_eq_true_eq, Bool.not_eq_true', Bool.and_eq_false_iff, beq_eq_false_iff_ne] at h
  obtain ⟨⟨level, duration⟩, basis⟩ := h
  refine ⟨fun element => by simpa [element, maxLevel] using level, fun gas => by simpa [gas, maxLevel] using level, duration, ?_⟩
  rintro ⟨zero, heat⟩
  exact basis.elim (absurd zero) (absurd heat)

theorem programStage_some {k : ChannelKind} {n : ProgramNotice} {st : Stage} (h : programStage k n = some st) :
    n.basis = some st.basis ∧ n.action = some st.action ∧ n.level = st.level ∧ n.duration = st.duration ∧ n.index < n.count ∧
    1 ≤ n.count ∧ n.count ≤ 6 ∧ n.limit ≤ 15 ∧ stageValid k st = true := by
  unfold programStage at h
  split at h
  next b a basis action =>
    dsimp only at h
    split at h
    next passes =>
      simp only [Bool.and_eq_true, decide_eq_true_eq, within] at passes
      obtain ⟨⟨⟨index, count⟩, limit⟩, valid⟩ := passes
      cases h
      exact ⟨basis, action, rfl, rfl, index, count.1, count.2, limit, valid⟩
    next => cases h
  next => cases h

/-- The stage that a PROGRAM leaves at each place (R26, R27). -/
theorem storeStage_stages (n : ProgramNotice) (st : Stage) (p : Program) (i : Fin 6) :
    (storeStage n st p).stages[i] = storedStage n.index n.count st p.stages i := by
  fin_cases i <;> rfl

theorem storedStage_cases {n : ProgramNotice} {st x : Stage} {old : Vector (Option Stage) 6} {i : Fin 6}
    (h : storedStage n.index n.count st old i = some x) : x = st ∨ old[i] = some x := by
  unfold storedStage at h
  split at h
  · cases h
  · split at h
    · exact .inl (Option.some.inj h).symm
    · exact .inr h

theorem storeStage_stagesFit {k : ChannelKind} {n : ProgramNotice} {st : Stage} {p : Program} (valid : stageValid k st = true)
    (h : ∀ i : Fin 6, ∀ x, p.stages[i] = some x → stageFits k x) (i : Fin 6) (x : Stage)
    (stored : (storeStage n st p).stages[i] = some x) : stageFits k x := by
  rw [storeStage_stages] at stored
  rcases storedStage_cases stored with rfl | old
  · exact stageFits_of_valid valid
  · exact h i x old

theorem calmRecord_setUpProgram {k : ChannelKind} {n : ProgramNotice} {st : Stage} {p : Program}
    (carried : programStage k n = some st) (h : recordRanges k p) : calmRecord k (setUpProgram n st p) := by
  obtain ⟨-, -, -, -, -, one, six, limit, valid⟩ := programStage_some carried
  obtain ⟨-, -, -, -, stages⟩ := h
  exact calmRecord_of_fresh ⟨one, six, Nat.zero_le _, limit, storeStage_stagesFit valid stages⟩ rfl (by simp [setUpProgram])

/-- An edit in range leaves the record in its ranges; it changes the stage being timed only where it names it (R27). -/
theorem recordRanges_storeStage {k : ChannelKind} {n : ProgramNotice} {st : Stage} {p : Program}
    (carried : programStage k n = some st) (index : p.index < n.count) (repeats : p.repeatsDone ≤ n.limit) (h : recordRanges k p) :
    recordRanges k (storeStage n st p) := by
  obtain ⟨-, -, -, -, -, -, six, limit, valid⟩ := programStage_some carried
  obtain ⟨-, -, -, -, stages⟩ := h
  exact ⟨index, six, repeats, limit, storeStage_stagesFit valid stages⟩

theorem currentStage_eq {p : Program} {i : Fin 6} (index : p.index = i.val) : currentStage p = p.stages[i] := by
  simp [currentStage, index]

theorem currentStage_storeStage {n : ProgramNotice} {st : Stage} {p : Program} (small : n.count ≤ 6) (index : p.index < n.count) :
    currentStage (storeStage n st p) = if n.index = p.index then some st else currentStage p := by
  have bound : p.index < 6 := by omega
  rw [currentStage_eq (p := storeStage n st p) (i := ⟨p.index, bound⟩) rfl, currentStage_eq (p := p) (i := ⟨p.index, bound⟩) rfl, storeStage_stages, storedStage,
    if_neg (by simp only; omega)]
  exact if_congr eq_comm rfl rfl

theorem calmRecord_storeStage {k : ChannelKind} {n : ProgramNotice} {st : Stage} {p : Program}
    (carried : programStage k n = some st) (index : p.index < n.count) (repeats : p.repeatsDone ≤ n.limit)
    (other : n.index ≠ p.index) (h : calmRecord k p) : calmRecord k (storeStage n st p) := by
  obtain ⟨-, -, -, -, -, -, six, -⟩ := programStage_some carried
  obtain ⟨fits, time, sub⟩ := h
  obtain ⟨index', count, repeats', limit, stages⟩ := recordRanges_storeStage carried index repeats (recordRanges_of_fits fits)
  obtain ⟨-, -, -, -, elapsed, current, -⟩ := fits
  have stage : currentStage (storeStage n st p) = currentStage p := by rw [currentStage_storeStage six index, if_neg other]
  exact ⟨⟨index', count, repeats', limit, elapsed, stage ▸ current, stages⟩,
    fun timing alert x stage' duration => time timing alert x (stage ▸ stage') duration, sub⟩

theorem calmRecord_editCurrent {k : ChannelKind} {p : Program} {st : Stage} (h : recordRanges k p) (sub : p.subSecond < 120)
    (time : p.elapsed ≤ 65534) (current : currentStage p = some st) : calmRecord k (editCurrent st p) := by
  unfold editCurrent
  split
  next => exact calmRecord_carryEnd h sub current
  next counts =>
    obtain ⟨index, count, repeats, limit, stages⟩ := h
    have short : ∀ x, currentStage p = some x → x.duration ≠ 0 → p.elapsed < x.duration := by
      intro x same duration
      rw [current] at same
      cases same
      by_contra long
      exact counts ⟨duration, by omega⟩
    exact ⟨⟨index, count, repeats, limit, time, fun x same duration => (short x same duration).le, stages⟩,
      fun _ _ x same duration => short x same duration, sub⟩

/-! ## Commands, lockout and seconds -/

theorem calmRecord_startedProgram {k : ChannelKind} {p : Program} (h : recordRanges k p) : calmRecord k (startedProgram p) := by
  obtain ⟨index, count, repeats, limit, stages⟩ := h
  exact calmRecord_of_fresh ⟨by simp only [startedProgram]; omega, count, Nat.zero_le _, limit, stages⟩ rfl (by simp [startedProgram])

theorem calmRecord_stoppedProgram {k : ChannelKind} {p : Program} (h : calmRecord k p) : calmRecord k (stoppedProgram p) := by
  unfold stoppedProgram
  split
  · exact h
  all_goals exact h.stilled rfl rfl rfl rfl rfl rfl rfl (by simp)

theorem calmRecord_lockedOutProgram {k : ChannelKind} {p : Program} (cause : FaultCode) (h : calmRecord k p) :
    calmRecord k (lockedOutProgram cause p) := by
  unfold lockedOutProgram
  split
  case h_1 | h_2 => exact h.stilled rfl rfl rfl rfl rfl rfl rfl (by simp)
  case h_3 => exact h.stilled rfl rfl rfl rfl rfl rfl rfl fun timing => ⟨timing, rfl⟩
  all_goals exact h

/-- A second that a running stage with time left has completed (R36). -/
theorem calmRecord_second {k : ChannelKind} {p q : Program} (fits : recordFits k p) (time : timeLeft p) (running : p.state = .running)
    (alert : p.alert = false) (open' : p.elapsed < 65534) (e : q = { p with subSecond := 0, elapsed := p.elapsed + 1 }) :
    recordFits k q ∧ (expires q = false → calmRecord k q) := by
  subst e
  obtain ⟨index, count, repeats, limit, -, -, stages⟩ := fits
  have short : ∀ x, currentStage p = some x → x.duration ≠ 0 → p.elapsed + 1 ≤ x.duration :=
    fun x current duration => time (.inl running) alert x current duration
  have fits' : recordFits k { p with subSecond := 0, elapsed := p.elapsed + 1 } :=
    ⟨index, count, repeats, limit, open', short, stages⟩
  refine ⟨fits', fun going => ⟨fits', fun _ _ x current duration => ?_, by simp⟩⟩
  have current' : currentStage p = some x := current
  have differs : ¬ (x.duration ≠ 0 ∧ p.elapsed + 1 = x.duration) := by
    intro ends
    have expired : expires { p with subSecond := 0, elapsed := p.elapsed + 1 } = true := by
      unfold expires
      rw [current]
      simpa using ends
    rw [expired] at going
    cases going
  have := short x current' duration
  simp only
  omega

end Sys2Proof.Machine
end

section
/-!
PROOF. Every step keeps the program records' relations (O33): a node with no second or expiry due is calm, what changes a record keeps it
calm, and a taking leaves at most one second to complete.
-/

namespace Sys2Proof.Machine

/-! ## A node between two seconds -/

/-- No second and no expiry is under way: every record is calm, no stage is known before the options, and a second is 120 events at most. -/
def State.calm (s : State) : Prop :=
  (∀ c : Channel, calmRecord (s.kind c) s.programs[c]) ∧
  (s.loader.node = .startUp → ∀ c : Channel, ∀ i : Fin 6, s.programs[c].stages[i] = none) ∧
  s.base.tickRate ≤ 120 ∧ s.base.eventRate ≤ 120

theorem State.calm.of_recordsFit {s : State} (h : s.recordsFit) (second : ∀ c, s.event.due ≠ some (.secondComplete c))
    (expiry : ∀ c, s.event.due ≠ some (.stageExpiry c)) : s.calm := by
  obtain ⟨fits, time, -, sub, stages, tick, rate⟩ := h
  exact ⟨fun c => ⟨fits c, (time c).resolve_right (expiry c), (sub c).resolve_right (second c)⟩, stages, tick, rate⟩

theorem State.calm.recordsFit {s : State} (h : s.calm) (second : ∀ c, s.event.due ≠ some (.secondComplete c)) : s.recordsFit := by
  obtain ⟨records, stages, tick, rate⟩ := h
  exact ⟨fun c => (records c).1, fun c => .inl (records c).2.1, fun c due => absurd due (second c), fun c => .inl (records c).2.2, stages,
    tick, rate⟩

theorem State.calm.rebase {s t : State} (h : s.calm) (programs : t.programs = s.programs)
    (options : t.loader.options = s.loader.options) (node : t.loader.node = .startUp → s.loader.node = .startUp)
    (tick : t.base.tickRate ≤ 120) (rate : t.base.eventRate ≤ 120) : t.calm := by
  obtain ⟨records, stages, -, -⟩ := h
  refine ⟨?_, fun startUp => ?_, tick, rate⟩
  · simpa only [State.kind, programs, options] using records
  · rw [programs]
    exact stages (node startUp)

theorem State.calm.congr {s t : State} (h : s.calm) (programs : t.programs = s.programs) (loader : t.loader = s.loader)
    (base : t.base = s.base) : t.calm :=
  h.rebase programs (by rw [loader]) (by rw [loader]; exact id) (by rw [base]; exact h.2.2.1) (by rw [base]; exact h.2.2.2)

/-- One record is changed to a calm one; in START-UP no stage is stored. -/
theorem State.calm.set {s t : State} (h : s.calm) {c : Channel} {p : Program} (programs : t.programs = s.programs.set c p)
    (loader : t.loader = s.loader) (base : t.base = s.base) (kept : calmRecord (s.kind c) s.programs[c] → calmRecord (s.kind c) p)
    (unstored : s.loader.node = .startUp → p.stages = s.programs[c].stages) : t.calm := by
  obtain ⟨records, stages, tick, rate⟩ := h
  have kind : ∀ d, t.kind d = s.kind d := fun d => by rw [State.kind, State.kind, loader]
  refine ⟨fun d => ?_, fun startUp d => ?_, by rwa [base], by rwa [base]⟩
  · rw [kind, programs]
    exact forall_set_at (Q := fun d p => calmRecord (s.kind d) p) c (kept (records c)) (fun d _ => records d) d
  · rw [loader] at startUp
    rw [programs]
    have none : ∀ x : Channel, ∀ i : Fin 6, s.programs[x].stages[i] = none := stages startUp
    refine forall_set (Q := fun x : Program => ∀ i : Fin 6, x.stages[i] = Option.none) none c ?_ d
    rw [unstored startUp]
    exact none c

/-! ## Operations on a calm node -/

theorem refuse_programs (c : Channel) (s : State) : (refuse c s).programs =
    s.programs.set c { s.programs[c] with refused := true, refusalMark := s.programs[c].refusalMark + 1 } := by
  simp [refuse]

theorem calm_refuse (c : Channel) {s : State} (h : s.calm) : (refuse c s).calm :=
  h.set (refuse_programs c s) (by simp) (by simp)
    (fun r => r.stilled rfl rfl rfl rfl rfl rfl rfl fun timing => ⟨timing, rfl⟩) fun _ => rfl

theorem lockoutReport_programs (c : Channel) (cause : FaultCode) (s : State) :
    (lockoutReport c cause s).programs = s.programs.set c (lockedOutProgram cause s.programs[c]) := by
  simp [lockoutReport]

theorem lockedOutProgram_stages (cause : FaultCode) (p : Program) : (lockedOutProgram cause p).stages = p.stages := by
  unfold lockedOutProgram; split <;> rfl

theorem calm_enterLockout (c : Channel) (cause : FaultCode) {s : State} (h : s.calm) : (enterLockout c cause s).calm :=
  h.set (p := lockedOutProgram cause s.programs[c]) (by simp [enterLockout, lockoutReport]) (by simp) (by simp)
    (calmRecord_lockedOutProgram cause) fun _ => lockedOutProgram_stages cause _

theorem calm_failAttempt (c : Channel) {s : State} (h : s.calm) : (failAttempt c s).calm := by
  unfold failAttempt
  dsimp only
  split
  · exact h.congr (by simp) (by simp) (by simp)
  · exact calm_enterLockout c _ (h.congr (by simp) (by simp) (by simp))

theorem calm_dropKey (k : Key) {s : State} (h : s.calm) : (dropKey k s).calm := by
  have removed : (removeKey k s).calm := h.congr (by simp) (by simp) (by simp)
  unfold dropKey
  split
  · unfold keyLost
    split
    · split
      case h_3 => exact calm_failAttempt _ removed
      all_goals exact removed.congr (by simp) (by simp) (by simp)
    · exact removed
  · exact removed

theorem calm_stopChannel (c : Channel) {s : State} (h : s.calm) : (stopChannel c s).calm := by
  have stages : (stoppedProgram s.programs[c]).stages = s.programs[c].stages := by unfold stoppedProgram; split <;> rfl
  unfold stopChannel
  split
  · exact h
  · exact h.set (p := stoppedProgram s.programs[c]) (by simp) (by simp) (by simp) calmRecord_stoppedProgram fun _ => stages

/-- An update of a record on a node that is not in START-UP, or one that stores no stage. -/
theorem calm_updateProgram (c : Channel) (p : Program) {s : State} (h : s.calm)
    (kept : calmRecord (s.kind c) s.programs[c] → calmRecord (s.kind c) p)
    (unstored : s.loader.node = .startUp → p.stages = s.programs[c].stages) : (updateProgram c p s).calm :=
  h.set (updateProgram_programs c p s) (by simp) (by simp) kept unstored

theorem node_of_inRun {s : State} (h : s.inRun = true) : s.loader.node = .run := by
  simp only [State.inRun, Bool.and_eq_true, beq_iff_eq] at h
  exact h.2

/-! ## A PROGRAM at a used channel in RUN -/

theorem programOn_of_refused {n : ProgramNotice} {c : Channel} {s : State}
    (refused : s.used c = false ∨ s.inRun = false ∨ programStage (s.kind c) n = none) : programOn n c s = refuse c s := by
  unfold programOn
  rcases refused with unused | out | faulty
  · simp [unused]
  · simp [out]
  · rw [faulty]
    simp

section
variable {n : ProgramNotice} {c : Channel} {st : Stage} {s : State}

/-- A PROGRAM in range that its program state refuses (R27). -/
theorem programOn_of_untaken (used : s.used c = true) (run : s.inRun = true) (carried : programStage (s.kind c) n = some st)
    (untaken : takeProgram n st s.programs[c] = none) : programOn n c s = refuse c s := by
  simp only [programOn, used, run, carried, untaken, Bool.not_true, Bool.or_self, Bool.false_eq_true, if_false]

/-- A PROGRAM in range that is stored, and may edit the stage being timed (R26 to R28). -/
theorem programOn_of_taken {p : Program} (used : s.used c = true) (run : s.inRun = true)
    (carried : programStage (s.kind c) n = some st) (taken : takeProgram n st s.programs[c] = some p) :
    programOn n c s =
      if editsCurrent n p then updateProgram c (editCurrent st p) (updateProgram c p s) else updateProgram c p s := by
  simp only [programOn, used, run, carried, taken, Bool.not_true, Bool.or_self, Bool.false_eq_true, if_false]

theorem editsCurrent_setUpProgram (p : Program) : editsCurrent n (setUpProgram n st p) = false := rfl

theorem editsCurrent_storeStage (p : Program) :
    editsCurrent n (storeStage n st p) = ((p.state == .running || p.state == .held) && n.index == p.index) := rfl

theorem programOn_of_stored (used : s.used c = true) (run : s.inRun = true) (carried : programStage (s.kind c) n = some st)
    (state : s.programs[c].state = .empty ∨ s.programs[c].state = .ready ∨ s.programs[c].state = .ended) :
    programOn n c s = updateProgram c (setUpProgram n st s.programs[c]) s := by
  have stored : takeProgram n st s.programs[c] = some (setUpProgram n st s.programs[c]) := by
    unfold takeProgram
    rcases state with state | state | state <;> rw [state]
  rw [programOn_of_taken used run carried stored, editsCurrent_setUpProgram]
  rfl

theorem takeProgram_of_timing {p : Program} (timing : p.state = .running ∨ p.state = .held) :
    takeProgram n st p = editProgram n st p := by
  unfold takeProgram
  rcases timing with state | state <;> rw [state]

theorem programOn_of_editFault (used : s.used c = true) (run : s.inRun = true) (carried : programStage (s.kind c) n = some st)
    (timing : s.programs[c].state = .running ∨ s.programs[c].state = .held)
    (fault : n.count ≤ s.programs[c].index ∨ n.limit < s.programs[c].repeatsDone) : programOn n c s = refuse c s := by
  refine programOn_of_untaken used run carried ?_
  rw [takeProgram_of_timing timing, editProgram, if_pos fault]

theorem editProgram_of_inRange {p : Program} (index : p.index < n.count) (repeats : p.repeatsDone ≤ n.limit) :
    editProgram n st p = some (storeStage n st p) := by
  rw [editProgram, if_neg (by omega)]

theorem takeProgram_of_inRange {p : Program} (timing : p.state = .running ∨ p.state = .held) (index : p.index < n.count)
    (repeats : p.repeatsDone ≤ n.limit) : takeProgram n st p = some (storeStage n st p) :=
  (takeProgram_of_timing timing).trans (editProgram_of_inRange index repeats)

theorem programOn_of_otherStage (used : s.used c = true) (run : s.inRun = true) (carried : programStage (s.kind c) n = some st)
    (timing : s.programs[c].state = .running ∨ s.programs[c].state = .held) (index : s.programs[c].index < n.count)
    (repeats : s.programs[c].repeatsDone ≤ n.limit) (other : n.index ≠ s.programs[c].index) :
    programOn n c s = updateProgram c (storeStage n st s.programs[c]) s := by
  rw [programOn_of_taken used run carried (takeProgram_of_inRange timing index repeats)]
  simp only [editsCurrent_storeStage, beq_eq_false_iff_ne.mpr other, Bool.and_false, Bool.false_eq_true, if_false]

theorem programOn_of_currentStage (used : s.used c = true) (run : s.inRun = true) (carried : programStage (s.kind c) n = some st)
    (timing : s.programs[c].state = .running ∨ s.programs[c].state = .held) (index : s.programs[c].index < n.count)
    (repeats : s.programs[c].repeatsDone ≤ n.limit) (same : n.index = s.programs[c].index) :
    programOn n c s = updateProgram c (editCurrent st (storeStage n st s.programs[c]))
      (updateProgram c (storeStage n st s.programs[c]) s) := by
  have edits : editsCurrent n (storeStage n st s.programs[c]) = true := by
    rw [editsCurrent_storeStage, same, beq_self_eq_true, Bool.and_true]
    rcases timing with state | state <;> rw [state] <;> rfl
  rw [programOn_of_taken used run carried (takeProgram_of_inRange timing index repeats)]
  exact if_pos edits

end

theorem calm_programOn (n : ProgramNotice) (c : Channel) {s : State} (h : s.calm) : (programOn n c s).calm := by
  obtain ⟨fits, -, sub⟩ := h.1 c
  have ranges := recordRanges_of_fits fits
  obtain ⟨-, -, -, -, elapsed, -⟩ := fits
  have refused := calm_refuse c h
  cases used : s.used c
  case false => rwa [programOn_of_refused (.inl used)]
  cases run : s.inRun
  case false => rwa [programOn_of_refused (.inr (.inl run))]
  have notStartUp : ∀ {q : Prop}, s.loader.node = .startUp → q := fun startUp => by
    rw [node_of_inRun run] at startUp
    cases startUp
  rcases carried : programStage (s.kind c) n with _ | st
  · rwa [programOn_of_refused (.inr (.inr carried))]
  by_cases timing : s.programs[c].state = .running ∨ s.programs[c].state = .held
  · by_cases inRange : s.programs[c].index < n.count ∧ s.programs[c].repeatsDone ≤ n.limit
    · obtain ⟨index, repeats⟩ := inRange
      obtain ⟨-, -, -, -, -, -, six, -⟩ := programStage_some carried
      by_cases same : n.index = s.programs[c].index
      · have current : currentStage (storeStage n st s.programs[c]) = some st := by
          rw [currentStage_storeStage six index, if_pos same]
        rw [programOn_of_currentStage used run carried timing index repeats same]
        refine h.set (c := c) (p := editCurrent st (storeStage n st s.programs[c])) (by simp) (by simp) (by simp) (fun _ => ?_) notStartUp
        exact calmRecord_editCurrent (recordRanges_storeStage carried index repeats ranges) sub elapsed current
      · rw [programOn_of_otherStage used run carried timing index repeats same]
        exact calm_updateProgram c _ h (calmRecord_storeStage carried index repeats same) notStartUp
    · rwa [programOn_of_editFault used run carried timing (by omega)]
  · have stored : s.programs[c].state = .empty ∨ s.programs[c].state = .ready ∨ s.programs[c].state = .ended := by
      cases state : s.programs[c].state <;> simp_all
    rw [programOn_of_stored used run carried stored]
    exact calm_updateProgram c _ h (fun _ => calmRecord_setUpProgram carried ranges) notStartUp

end Sys2Proof.Machine
end

section
/-!
PROOF. Every step keeps the program records' relations (O33), continued: the commands, the takings of an event, the due steps and the
arrivals.
-/

namespace Sys2Proof.Machine

/-! ## Commands on a calm node -/

theorem calm_startOn (c : Channel) {s : State} (h : s.calm) : (startOn c s).calm := by
  unfold startOn
  split
  · exact calm_refuse c h
  · split
    · exact calm_updateProgram c _ h (fun r => calmRecord_startedProgram (recordRanges_of_fits r.1)) fun _ => rfl
    · exact calm_refuse c h

theorem calm_holdOn (c : Channel) {s : State} (h : s.calm) : (holdOn c s).calm := by
  unfold holdOn
  split
  · exact calm_refuse c h
  · split
    next running =>
      exact calm_updateProgram c _ h (fun r => r.stilled rfl rfl rfl rfl rfl rfl rfl fun _ => ⟨.inl running, rfl⟩) fun _ => rfl
    next => exact h

theorem calm_resumeOn (c : Channel) {s : State} (h : s.calm) : (resumeOn c s).calm := by
  unfold resumeOn
  split
  · exact calm_refuse c h
  · split
    next held =>
      exact calm_updateProgram c _ h (fun r => r.stilled rfl rfl rfl rfl rfl rfl rfl fun _ => ⟨.inr held, rfl⟩) fun _ => rfl
    next => exact h

theorem calm_stopOn (c : Channel) {s : State} (h : s.calm) : (stopOn c s).calm := by
  unfold stopOn
  split
  · exact calm_refuse c h
  · exact calm_stopChannel c h

theorem calm_takeMasked {g : Channel → State → State} (hg : g = startOn ∨ g = holdOn ∨ g = resumeOn ∨ g = stopOn) (f : RxFrame)
    {s : State} (h : s.calm) : (takeMasked g f s).calm := by
  have one : ∀ c u, State.calm u → (g c u).calm := by
    obtain rfl | rfl | rfl | rfl := hg
    · exact fun c _ => calm_startOn c
    · exact fun c _ => calm_holdOn c
    · exact fun c _ => calm_resumeOn c
    · exact fun c _ => calm_stopOn c
  unfold takeMasked
  split
  · exact (onNamed_keeps f.body g one s h).congr (by simp) (by simp) (by simp)
  · exact h

theorem calm_takeProgramNotice (f : RxFrame) {s : State} (h : s.calm) : (takeProgramNotice f s).calm := by
  unfold takeProgramNotice
  split
  · split
    · exact h
    next c _ =>
      have taken := calm_programOn (readProgram f.body) c h
      exact taken.congr (by simp) (by simp) (by simp)
  · exact h

theorem calm_transmitSuccess (x : Selection) {s : State} (h : s.calm) : (transmitSuccess x s).calm := by
  unfold transmitSuccess ownerSuccess
  split
  · unfold clearRefused
    split
    · exact h.set rfl rfl rfl (fun r => r.stilled rfl rfl rfl rfl rfl rfl rfl fun timing => ⟨timing, rfl⟩) fun _ => rfl
    · exact h.congr rfl rfl rfl
  all_goals exact h.congr rfl rfl rfl

theorem calm_takeChar (ch : LineChar) {s : State} (h : s.calm) : (takeChar ch s).calm := by
  refine takeChar_keeps ?_ ?_ ?_ ?_ ?_ ?_ ?_ ch s h
  · exact fun _ _ hu => hu.congr rfl rfl rfl
  · intro u hu
    exact hu.rebase (by simp) (by simp [enterConfigFault]) (by simp [enterConfigFault]) (by simpa [enterConfigFault] using hu.2.2.1)
      (by simpa [enterConfigFault] using hu.2.2.2)
  · exact fun _ _ hu => hu.congr (by simp) (by simp) (by simp)
  · exact fun _ hu => hu.congr (by simp) (by simp) (by simp)
  · exact fun x _ hu => calm_transmitSuccess x hu
  · exact fun _ _ hu => hu.congr rfl rfl rfl
  · exact fun _ hu => hu.congr (by simp) (by simp) (by simp)

theorem calm_takePresence (f : RxFrame) {s : State} (active : s.active = true) (h : s.calm) : (takePresence f s).calm := by
  refine takePresence_keeps ?_ ?_ ?_ ?_ ?_ f s active h
  · exact fun _ _ hu => hu.congr rfl rfl rfl
  · exact fun _ _ hu => hu.congr rfl rfl rfl
  · intro x y u _ hu
    have rates : (adoptPhase x y u).base.tickRate = u.base.tickRate ∧ (adoptPhase x y u).base.eventRate = u.base.eventRate := by
      unfold adoptPhase
      dsimp only
      split <;> simp
    exact hu.rebase (by simp) (by simp) (by simp) (by rw [rates.1]; exact hu.2.2.1) (by rw [rates.2]; exact hu.2.2.2)
  · exact fun _ _ _ _ hu => hu.congr (by simp) (by simp) (by simp)
  · intro st body u c hu
    unfold restateSpark
    dsimp only
    split
    · split
      · exact hu
      · split <;> exact hu.congr (by simp) (by simp) (by simp)
    · exact calm_dropKey _ hu

theorem calm_stopAll {s : State} (h : s.calm) : (stopAll s).calm :=
  stopAll_keeps (P := State.calm) (fun c _ hu => calm_stopChannel c hu) s h

theorem reset_stages (i : Fin 6) : Program.reset.stages[i] = none := by
  fin_cases i <;> rfl

theorem calmRecord_reset (k : ChannelKind) : calmRecord k Program.reset := by
  have stages : ∀ i : Fin 6, ∀ st, Program.reset.stages[i] = some st → stageFits k st := fun i st stage => by
    rw [reset_stages] at stage
    cases stage
  exact calmRecord_of_fresh ⟨by decide, by decide, by decide, by decide, stages⟩ rfl (by decide)

/-- A node at its reset values is calm, whatever options it has kept. -/
theorem calm_of_reset {s : State} (programs : s.programs = State.reset.programs) (tick : s.base.tickRate = 100)
    (rate : s.base.eventRate = 100) : s.calm := by
  have record : ∀ c : Channel, s.programs[c] = Program.reset := by
    intro c
    rw [programs]
    fin_cases c <;> rfl
  exact ⟨fun c => record c ▸ calmRecord_reset _, fun _ c i => by rw [record c, reset_stages], by omega, by omega⟩

theorem calm_endOptionRead (m : Nat) (block : List Byte) {s : State} (startUp : s.loader.node = .startUp) (h : s.calm) :
    (endOptionRead m block s).calm := by
  unfold endOptionRead
  split
  · obtain ⟨records, stages, tick, rate⟩ := h
    refine ⟨fun c => ?_, by simp [enterListen], tick, rate⟩
    obtain ⟨⟨index, count, repeats, limit, elapsed, current, -⟩, rest⟩ := records c
    have unstored : ∀ i : Fin 6, s.programs[c].stages[i] = none := stages startUp c
    exact ⟨⟨index, count, repeats, limit, elapsed, current, fun i st stage => absurd (stage.symm.trans (unstored i)) (by simp)⟩, rest⟩
  · exact h.rebase (by simp) (by simp [enterConfigFault]) (by simp [enterConfigFault]) (by simpa [enterConfigFault] using h.2.2.1)
      (by simpa [enterConfigFault] using h.2.2.2)

/-! ## Taking an event -/

theorem stage_of_countsEvent {c : Channel} {s : State} (h : countsEvent c s = true) : s.programs[c].state = .running ∧
    s.programs[c].alert = false ∧ ∃ st, currentStage s.programs[c] = some st ∧ ¬ (st.duration = 0 ∧ 65534 ≤ s.programs[c].elapsed) ∧
    (st.basis = .wall ∨ deliversHeat c s = true) := by
  unfold countsEvent at h
  dsimp only at h
  split at h
  next st state current =>
    simp only [Bool.and_eq_true, Bool.not_eq_true', Bool.and_eq_false_iff, beq_eq_false_iff_ne, decide_eq_false_iff_not, Bool.or_eq_true,
      beq_iff_eq] at h
    obtain ⟨⟨alert, time⟩, basis⟩ := h
    refine ⟨state, alert, st, current, fun both => ?_, basis⟩
    exact time.elim (absurd both.1) (absurd both.2)
  next => cases h

/-- A count leaves a calm node, or a second complete at a stage with time left. -/
theorem takeCount_recordsFit (c : Channel) {s : State} (due : s.event.due = none) (h : s.calm) : (takeCount c s).recordsFit := by
  have kept : s.recordsFit := h.recordsFit fun d some => by rw [due] at some; cases some
  unfold takeCount
  split
  next counted =>
    simp only [Bool.and_eq_true] at counted
    obtain ⟨running, alert, st, current, open', -⟩ := stage_of_countsEvent counted.2
    dsimp only
    split
    next full =>
      obtain ⟨records, stages, tick, rate⟩ := h
      refine ⟨?_, ?_, ?_, ?_, ?_, tick, rate⟩
      · refine forall_set_at (Q := fun d p => recordFits (s.kind d) p) c ?_ fun d _ => (records d).1
        exact (records c).1.congr rfl rfl rfl rfl rfl rfl
      · have timed : timeLeft { s.programs[c] with subSecond := s.programs[c].subSecond + 1 } := (records c).2.1
        exact fun d => .inl (forall_set (fun d => (records d).2.1) c timed d)
      · intro d complete
        obtain rfl : c = d := by simpa using complete
        obtain ⟨fits, time, -⟩ := records c
        have bound : s.programs[c].elapsed < 65534 := by
          by_cases endless : st.duration = 0
          · omega
          · obtain ⟨-, -, duration, -⟩ := currentStage_fits (recordRanges_of_fits fits).2.2.2.2 current
            have := time (.inl running) alert st current endless
            omega
        simpa using ⟨running, alert, bound⟩
      · intro d
        by_cases e : c = d
        · exact .inr (by simp [e])
        · have e' : c.val ≠ d.val := fun v => e (Fin.ext v)
          exact .inl (by simpa [Vector.getElem_set_ne, e'] using (records d).2.2)
      · intro startUp
        have unstored : ∀ x : Channel, ∀ i : Fin 6, s.programs[x].stages[i] = none := stages startUp
        refine forall_set (Q := fun p : Program => ∀ i : Fin 6, p.stages[i] = none) unstored c ?_
        exact unstored c
    next counts =>
      refine State.calm.recordsFit (h.set rfl rfl rfl (fun r => ?_) fun _ => rfl) fun d some => by
        rw [State.event_setProgram, due] at some
        cases some
      have rate : s.base.eventRate ≤ 120 := h.2.2.2
      exact ⟨r.1.congr rfl rfl rfl rfl rfl rfl, r.2.1, by simp only; omega⟩
  next => exact kept

end Sys2Proof.Machine
end

section
/-!
PROOF. Every step keeps the program records' relations (O33), concluded: events, due steps and arrivals.
-/

namespace Sys2Proof.Machine

/-! ## Events -/

theorem State.recordsFit.congr {s t : State} (h : s.recordsFit) (programs : t.programs = s.programs) (loader : t.loader = s.loader)
    (base : t.base = s.base) (due : t.event.due = s.event.due) : t.recordsFit := by
  simpa only [State.recordsFit, State.kind, programs, loader, base, due] using h

/-- With nothing due, the relations of the records are calm. -/
theorem State.recordsFit.calm {s : State} (h : s.recordsFit) (due : s.event.due = none) : s.calm :=
  .of_recordsFit h (fun c some => by rw [due] at some; cases some) fun c some => by rw [due] at some; cases some

theorem State.calm.recordsFit_of_none {s : State} (h : s.calm) (due : s.event.due = none) : s.recordsFit :=
  h.recordsFit fun c some => by rw [due] at some; cases some

theorem second_of_dueFrom {x : Taking} {c : Channel} (h : dueFrom x (.secondComplete c)) : x = .count c := by
  cases x <;> simp only [dueFrom, reduceCtorEq, false_or, Due.secondComplete.injEq] at h
  case count d => rw [h]
  case flame d => obtain ⟨w, h⟩ := h; cases w <;> cases h

theorem takeOne_recordsFit (x : Taking) {s : State} (due : s.event.due = none) (h : s.calm) : (takeOne x s).recordsFit := by
  by_cases count : ∃ c, x = .count c
  · obtain ⟨c, rfl⟩ := count
    exact takeCount_recordsFit c due h
  · have programs := takeOne_programs x s (not_exists.mp count)
    have calm : (takeOne x s).calm :=
      h.rebase programs (by simp) (by simp) (by simpa using h.2.2.1) (by simpa using h.2.2.2)
    refine calm.recordsFit fun c some => ?_
    rcases takeOne_due x s with kept | ⟨d, made, source⟩
    · rw [kept, due] at some
      cases some
    · obtain rfl : d = .secondComplete c := Option.some.inj (made.symm.trans some)
      exact count ⟨c, second_of_dueFrom source⟩

theorem setDue_recordsFit {d : Due} {s : State} (h : s.calm) (second : ∀ c, d ≠ .secondComplete c) :
    (setDue (some d) s).recordsFit := by
  have calm : (setDue (some d) s).calm := h.congr (by simp) (by simp) (by simp)
  exact calm.recordsFit fun c some => second c (by simpa using some)

theorem endTaking_recordsFit {s : State} (h : s.recordsFit) : (endTaking s).recordsFit := by
  unfold endTaking
  split
  next ended => exact setDue_recordsFit (h.calm ended.1) (by simp)
  next => exact h

theorem resumeTaking_recordsFit (xs : List Taking) {s : State} (due : s.event.due = none) (h : s.calm) :
    (resumeTaking xs s).recordsFit := by
  induction xs generalizing s with
  | nil =>
    rw [resumeTaking_nil]
    have calm : (setUntaken [] s).calm := h.congr (by simp) (by simp) (by simp)
    exact endTaking_recordsFit (calm.recordsFit_of_none (by simpa using due))
  | cons x xs ih =>
    have taken : (reporting (takeOne x) s).recordsFit := (takeOne_recordsFit x due h).congr (by simp) (by simp) (by simp) (by simp)
    rw [resumeTaking_cons]
    split
    next none => exact ih none (taken.calm none)
    next => exact taken.congr (by simp) (by simp) (by simp) (by simp)

theorem halfCycleEvent_recordsFit (m : Nat) {s : State} (h : s.calm) (due : s.event.due = none) : (halfCycleEvent m s).recordsFit := by
  unfold halfCycleEvent
  split
  · refine resumeTaking_recordsFit _ (by simp [openEvent]) (h.rebase (by simp) (by simp) (by simp) ?_ ?_)
    · rw [openEvent_base]; exact h.2.2.1
    · rw [openEvent_base]; exact h.2.2.1
  · exact h.recordsFit_of_none due

theorem goOn_recordsFit {s : State} (h : s.recordsFit) : (goOn s).recordsFit := by
  unfold goOn
  split
  next none => exact resumeTaking_recordsFit _ none (h.calm none)
  next => exact h

/-- A change of the time base that keeps the rates in their range keeps a node calm. -/
theorem State.calm.setBase {s : State} (h : s.calm) {b : TimeBase} (tick : b.tickRate ≤ 120) (rate : b.eventRate = s.base.eventRate) :
    (s.setBase b).calm :=
  h.rebase rfl rfl id tick (by rw [State.base_setBase, rate]; exact h.2.2.2)

theorem bandRate_le (x : Band) : bandRate x ≤ 120 := by
  cases x <;> decide

theorem lockStep_recordsFit {s : State} (h : s.calm) (due : s.event.due = none) : (lockStep s).recordsFit := by
  have locked : (s.setBase (lockedBase s.base)).calm := h.setBase (bandRate_le _) rfl
  unfold lockStep
  dsimp only
  split
  · exact locked.recordsFit_of_none due
  · exact halfCycleEvent_recordsFit _ locked due

theorem enterLost_recordsFit {s : State} (h : s.calm) (due : s.event.due = none) : (enterLost s).recordsFit := by
  have lost : (sparksOff (s.setBase (lostBase s.base))).calm :=
    State.calm.congr (s := s.setBase (lostBase s.base)) (h.setBase h.2.2.1 rfl) (by simp) (by simp) (by simp)
  have due' : (sparksOff (s.setBase (lostBase s.base))).event.due = none := by simpa using due
  unfold enterLost
  dsimp only
  split
  · split
    · exact halfCycleEvent_recordsFit _ (lost.setBase lost.2.2.1 rfl) due'
    · exact State.calm.recordsFit_of_none (lost.setBase lost.2.2.1 rfl) due'
  · exact lost.recordsFit_of_none due'

/-! ## Due steps -/

theorem carryEnd_stages (st : Stage) (p : Program) : (carryEnd st p).stages = p.stages := by
  unfold carryEnd endNext endOff endRepeat endKeep
  (repeat' split) <;> rfl

/-- One channel's record changes, in its ranges, while a second of it is completed or its stage ends. -/
theorem secondStep_recordsFit (c : Channel) {s : State} (h : s.recordsFit) (due : s.event.due = some (.secondComplete c)) :
    (secondStep c (setDue none s)).recordsFit := by
  obtain ⟨fits, time, second, sub, stages, tick, rate⟩ := h
  obtain ⟨running, alert, bound⟩ := second c due
  have timed : ∀ d : Channel, timeLeft s.programs[d] := fun d => (time d).resolve_right (by simp [due])
  obtain ⟨fits', calm'⟩ := calmRecord_second (fits c) (timed c) running alert bound rfl
  have other : ∀ d : Channel, d ≠ c → calmRecord (s.kind d) s.programs[d] := fun d differs =>
    ⟨fits d, timed d, (sub d).resolve_right (by simpa [due] using fun e => differs e.symm)⟩
  have stored : ∀ p : Program, p.stages = s.programs[c].stages → s.loader.node = .startUp →
      ∀ d : Channel, ∀ i : Fin 6, (s.programs.set c p)[d].stages[i] = none := by
    intro p same startUp
    have unstored : ∀ x : Channel, ∀ i : Fin 6, s.programs[x].stages[i] = none := stages startUp
    refine forall_set (Q := fun p : Program => ∀ i : Fin 6, p.stages[i] = none) unstored c ?_
    rw [same]
    exact unstored c
  unfold secondStep
  dsimp only
  split
  next =>
    refine ⟨?_, ?_, fun d some => by simp at some, ?_, stored _ rfl, tick, rate⟩
    · exact forall_set_at (Q := fun d p => recordFits (s.kind d) p) c fits' fun d differs => (other d differs).1
    · intro d
      by_cases e : d = c
      · exact .inr (by simp [e])
      · exact .inl (forall_set_at (Q := fun d p => d ≠ c → timeLeft p) c (absurd rfl) (fun d differs _ => (other d differs).2.1) d e)
    · exact fun d => .inl (forall_set_at (Q := fun _ (p : Program) => p.subSecond < 120) c (by simp) (fun d differs => (other d differs).2.2) d)
  next going =>
    have calm : (s.setProgram c { s.programs[c] with subSecond := 0, elapsed := s.programs[c].elapsed + 1 }).calm :=
      ⟨forall_set_at (Q := fun d p => calmRecord (s.kind d) p) c (calm' (by simpa using going)) other, stored _ rfl, tick, rate⟩
    split
    all_goals exact State.calm.recordsFit_of_none (calm.congr (by simp) (by simp) (by simp)) (by simp)

theorem expiryStep_recordsFit (c : Channel) {s : State} (h : s.recordsFit) (due : s.event.due = some (.stageExpiry c)) :
    (expiryStep c (setDue none s)).recordsFit := by
  obtain ⟨fits, time, -, sub, stages, tick, rate⟩ := h
  have small : ∀ d : Channel, s.programs[d].subSecond < 120 := fun d => (sub d).resolve_right (by simp [due])
  have other : ∀ d : Channel, d ≠ c → calmRecord (s.kind d) s.programs[d] := fun d differs =>
    ⟨fits d, (time d).resolve_right (by simpa [due] using fun e => differs e.symm), small d⟩
  unfold expiryStep
  simp only [setDue_frame]
  split
  next st current =>
    have ended : calmRecord (s.kind c) (carryEnd st s.programs[c]) :=
      calmRecord_carryEnd (recordRanges_of_fits (fits c)) (small c) current
    refine State.calm.recordsFit_of_none ⟨fun d => ?_, fun startUp d => ?_, by simpa using tick, by simpa using rate⟩ (by simp)
    · have kept := forall_set_at (Q := fun d p => calmRecord (s.kind d) p) c ended other d
      simpa [State.kind] using kept
    · have unstored : ∀ x : Channel, ∀ i : Fin 6, s.programs[x].stages[i] = none := stages (by simpa using startUp)
      simp only [updateProgram_programs, setDue_frame]
      refine forall_set (Q := fun p : Program => ∀ i : Fin 6, p.stages[i] = none) unstored c ?_ d
      rw [carryEnd_stages]
      exact unstored c
  next unset =>
    have idle : calmRecord (s.kind c) s.programs[c] :=
      ⟨fits c, fun _ _ st current => absurd (current.symm.trans unset) (by simp), small c⟩
    refine State.calm.recordsFit_of_none ⟨fun d => ?_, by simpa using stages, by simpa using tick, by simpa using rate⟩ (by simp)
    by_cases e : d = c
    · simpa [State.kind, e] using idle
    · simpa [State.kind] using other d e

theorem calm_holdLimitStep {s : State} (h : s.calm) : (holdLimitStep s).calm := by
  unfold holdLimitStep
  split
  · exact h
  · exact calm_dropKey _ (h.congr (by simp) (by simp) (by simp))

theorem calm_ignitionEndStep (c : Channel) {s : State} (h : s.calm) : (ignitionEndStep c s).calm := by
  unfold ignitionEndStep
  split
  · exact calm_failAttempt c h
  · exact h

theorem calm_relightEndStep (c : Channel) {s : State} (h : s.calm) : (relightEndStep c s).calm := by
  unfold relightEndStep
  split
  · exact calm_enterLockout c _ (h.congr (by simp) (by simp) (by simp))
  · exact h

theorem calm_enterRun {s : State} (h : s.calm) : (enterRun s).calm :=
  h.rebase (by simp) (by simp [enterRun]) (by simp [enterRun]) (by simpa using h.2.2.1) (by simpa using h.2.2.2)

/-- Carrying out a due step keeps the relations of the records. -/
theorem carryOut_recordsFit (d : Due) {s : State} (due : s.event.due = some d) (h : s.recordsFit) : (carryOut d s).recordsFit := by
  refine goOn_recordsFit ?_
  by_cases timed : ∃ c, d = .secondComplete c ∨ d = .stageExpiry c
  · obtain ⟨c, rfl | rfl⟩ := timed
    · exact (secondStep_recordsFit c h due).congr (by simp [dueStep]) (by simp [dueStep]) (by simp [dueStep]) (by simp [dueStep])
    · exact (expiryStep_recordsFit c h due).congr (by simp [dueStep]) (by simp [dueStep]) (by simp [dueStep]) (by simp [dueStep])
  have before : s.calm := .of_recordsFit h (fun c e => timed ⟨c, .inl (Option.some.inj (due.symm.trans e))⟩)
    fun c e => timed ⟨c, .inr (Option.some.inj (due.symm.trans e))⟩
  have calm : (setDue none s).calm := before.congr (by simp) (by simp) (by simp)
  have settled : (setDue none s).event.due = none := by simp
  have kept : ∀ f : State → State, (f (setDue none s)).calm → (f (setDue none s)).event = (setDue none s).event →
      (reporting f (setDue none s)).recordsFit := fun f after event =>
    State.calm.recordsFit_of_none (after.congr (by simp) (by simp) (by simp)) (by simp [event])
  have flame : ∀ f : State → State, (f (setDue none s)).calm → ((f (setDue none s)).event.due = none ∨
      ∃ c w, (f (setDue none s)).event.due = some (windowEnd c w)) → (reporting f (setDue none s)).recordsFit := by
    intro f after made
    refine State.calm.recordsFit (after.congr (by simp) (by simp) (by simp)) fun c second => ?_
    rw [(reporting_frame f _).2.2.2.2.2.2.2.2.2.2.2.2.2.1] at second
    rcases made with none | ⟨x, w, some⟩
    · rw [none] at second; cases second
    · rw [some] at second; cases w <;> cases second
  cases d <;> simp only [dueStep]
  case lock => exact lockStep_recordsFit calm settled
  case badRunLost => exact enterLost_recordsFit calm settled
  case secondComplete c => exact absurd ⟨c, .inl rfl⟩ timed
  case stageExpiry c => exact absurd ⟨c, .inr rfl⟩ timed
  case flamePresent c =>
    exact flame _ (calm.congr (by simp) (by simp) (by simp)) ((flamePresentStep_due c _ settled).imp_right fun ⟨w, e⟩ => ⟨c, w, e⟩)
  case flameAbsent c =>
    exact flame _ (calm.congr (by simp) (by simp) (by simp)) ((flameAbsentStep_due c _ settled).imp_right fun ⟨w, e⟩ => ⟨c, w, e⟩)
  case ignitionEnd c => exact kept _ (calm_ignitionEndStep c calm) (by simp)
  case purgeEnd c => exact kept _ (calm.congr (by simp) (by simp) (by simp)) (by simp)
  case relightEnd c => exact kept _ (calm_relightEndStep c calm) (by simp)
  case holdLimit => exact kept _ (calm_holdLimitStep calm) (by simp)
  case departure a => exact State.calm.recordsFit_of_none (calm.congr (by simp) (by simp) (by simp)) (by simp)
  case listenEnd => exact State.calm.recordsFit_of_none (calm_enterRun calm) (by simp)
  case presenceDue => exact State.calm.recordsFit_of_none (calm.congr (by simp) (by simp) (by simp)) (by simp)

/-! ## Arrivals -/

theorem judged_rates (j : Judgement) (m : Nat) (b : TimeBase) :
    (judged j m b).tickRate = b.tickRate ∧ (judged j m b).eventRate = b.eventRate := by
  cases j <;> exact ⟨rfl, rfl⟩

theorem countRun_rates (cls : Option Band) (b : TimeBase) :
    (countRun cls b).tickRate = b.tickRate ∧ (countRun cls b).eventRate = b.eventRate := by
  rw [countRun_frame]
  exact ⟨rfl, rfl⟩

theorem lockedCrossing_recordsFit (m interval : Nat) {s : State} (h : s.calm) (due : s.event.due = none) :
    (lockedCrossing m interval s).recordsFit := by
  obtain ⟨tick, rate⟩ := judged_rates (judge (bandInForce s.base) interval) m s.base
  have judged := h.setBase (b := judged (judge (bandInForce s.base) interval) m s.base) (by rw [tick]; exact h.2.2.1) rate
  unfold lockedCrossing
  dsimp only
  refine endTaking_recordsFit ?_
  split
  · exact judged.recordsFit_of_none due
  · exact halfCycleEvent_recordsFit _ judged due

theorem seekCrossing_recordsFit (m interval : Nat) {s : State} (h : s.calm) (due : s.event.due = none) :
    (seekCrossing m interval s).recordsFit := by
  obtain ⟨tick, rate⟩ := countRun_rates (classify interval) s.base
  have counted := h.setBase (b := { countRun (classify interval) s.base with reference := some m })
    (by simp only; rw [tick]; exact h.2.2.1) rate
  unfold seekCrossing
  dsimp only
  split
  · exact setDue_recordsFit counted (by simp)
  · exact counted.recordsFit_of_none due

theorem takeCrossing_recordsFit (m : Nat) {s : State} (h : s.calm) (due : s.event.due = none) : (takeCrossing m s).recordsFit := by
  have stamped : ((s.setPins { s.pins with zeroCross := !s.pins.zeroCross }).setBase { s.base with now := m }).calm :=
    h.rebase rfl rfl id h.2.2.1 h.2.2.2
  unfold takeCrossing
  dsimp only
  split
  · exact State.calm.recordsFit_of_none (stamped.setBase stamped.2.2.1 rfl) due
  · split
    · exact lockedCrossing_recordsFit _ _ stamped due
    · exact seekCrossing_recordsFit _ _ stamped due

theorem takeTimeout_recordsFit {s : State} (h : s.calm) (due : s.event.due = none) : (takeTimeout s).recordsFit := by
  unfold takeTimeout
  split
  · exact h.recordsFit_of_none due
  · split
    · exact enterLost_recordsFit (h.setBase h.2.2.1 rfl) due
    · exact h.recordsFit_of_none due

theorem takeFreeRun_recordsFit {s : State} (h : s.calm) (due : s.event.due = none) : (takeFreeRun s).recordsFit := by
  unfold takeFreeRun
  split
  · exact h.recordsFit_of_none due
  · split
    · exact halfCycleEvent_recordsFit _ (h.setBase h.2.2.1 rfl) due
    · exact h.recordsFit_of_none due

theorem withInputs_calm (inp : EventInputs) {s : State} (h : s.calm) : (withInputs inp s).calm := by
  unfold withInputs
  exact h.congr (by simp) (by simp) (by simp)

/-- An arrival that makes no event keeps a node calm. -/
theorem arrival_calm {c : Instr} {f : State → State} (h : arrival c = some f) (quiet : makesEvents c = false) (s : State)
    (hs : s.calm) : (f s).calm := by
  have delivered : ∀ k (g : RxFrame → State → State), (∀ fr u, State.active u = true → State.calm u → (g fr u).calm) →
      (deliver k g s).calm :=
    fun k g hg => deliver_keeps (P := State.calm) k g hg (fun _ _ _ _ hu => hu.congr rfl rfl rfl) s hs
  have masked : ∀ k g, (g = startOn ∨ g = holdOn ∨ g = resumeOn ∨ g = stopOn) → (deliver k (takeMasked g) s).calm :=
    fun k g hg => delivered k _ fun fr u _ hu => calm_takeMasked hg fr hu
  cases c <;> simp only [makesEvents, Bool.true_eq_false] at quiet <;> cases h
  case supplyLow v =>
    unfold takeSupplyLow
    split
    · exact hs.rebase (by simp) (by simp [enterHold]) (by simp [enterHold]) (by simpa using hs.2.2.1) (by simpa using hs.2.2.2)
    · exact hs
  case optionReadComplete m block =>
    unfold takeOptionRead
    split
    next reading => exact calm_endOptionRead m block reading.1 hs
    next => exact hs
  case planComputationComplete => exact hs.congr (by simp) (by simp) (by simp)
  case sparkStartPoint p =>
    dsimp only
    split
    · unfold takeStartPoint
      split
      · exact hs.congr (by simp) (by simp) (by simp)
      · exact hs
    · exact hs
  case frameStart p => dsimp only; (repeat' split) <;> exact hs.congr (by simp) (by simp) (by simp)
  case frameReceived chars => exact takeChars_keeps (P := State.calm) (fun ch u hu => calm_takeChar ch hu) chars s hs
  case rxGapTimeout => exact hs.congr (by simp) (by simp) (by simp)
  case resyncQuiet => exact hs.congr (by simp) (by simp) (by simp)
  case transmitAbort ch =>
    unfold echoMismatch
    split
    · exact hs
    · split
      · exact hs
      · exact calm_takeChar _ hs
  case presence => exact delivered _ _ fun fr u active hu => (calm_takePresence fr active hu).congr (by simp) (by simp) (by simp)
  case program => exact delivered _ _ fun fr u _ hu => calm_takeProgramNotice fr hu
  case start => exact masked _ _ (by simp)
  case hold => exact masked _ _ (by simp)
  case resume => exact masked _ _ (by simp)
  case stop => exact masked _ _ (by simp)
  case haltAll => exact delivered _ _ fun fr u _ hu => (calm_stopAll hu).congr (by simp) (by simp) (by simp)
  case restart m =>
    refine delivered _ _ fun fr u _ hu => ?_
    unfold takeRestart
    split
    · exact calm_of_reset (by simp [warmReset]) (by simp [warmReset, enterListen, State.reset, TimeBase.reset])
        (by simp [warmReset, enterListen, State.reset, TimeBase.reset])
    · exact hu
  case haltAssertion =>
    unfold takeHalt
    split
    · exact hs
    · have pinned : (s.setPins { s.pins with halt := true }).calm := hs.congr rfl rfl rfl
      exact haltEffect_keeps (P := State.calm) (fun hu => hu.congr (by simp) (by simp) (by simp))
        (fun u hu => hu.congr (by simp) (by simp) (by simp)) (calm_stopAll pinned) pinned
  case haltInputRelease => exact hs.congr rfl rfl rfl
  case elementHandover c =>
    have handed := takeHandover_keeps (P := State.calm) .element takeElementLevel
      (fun c level u hu => hu.congr (by simp) (by simp) (by simp)) (fun u c l hu => hu.congr rfl rfl rfl) c s hs
    exact handed.congr (by simp) (by simp) (by simp)
  case gasHandover c =>
    have handed := takeHandover_keeps (P := State.calm) .gas takeGasLevel
      (fun c level u hu => hu.congr (by simp) (by simp) (by simp)) (fun u c l hu => hu.congr rfl rfl rfl) c s hs
    exact handed.congr (by simp) (by simp) (by simp)
  case opener => exact calm_takeChar _ hs
  case framingError byte => exact calm_takeChar _ hs
  case state => exact delivered _ _ fun fr u _ hu => hu
  case counts => exact delivered _ _ fun fr u _ hu => hu
  all_goals exact delivered _ _ fun fr u _ hu => hu.congr (by simp) (by simp) (by simp)

theorem arrival_recordsFit {c : Instr} {f : State → State} (h : arrival c = some f) (s : State) (due : s.event.due = none)
    (fits : s.recordsFit) : (f s).recordsFit := by
  have calm := fits.calm due
  cases quiet : makesEvents c
  case false =>
    exact (arrival_calm h quiet s calm).recordsFit_of_none
      (arrival_event (R := fun w => w.due = none) rfl (fun _ hw => hw) h quiet s due)
  case true =>
    have order : ∀ inp, (withInputs inp s).event.due = none := by
      intro inp
      unfold withInputs
      simpa using due
    cases c <;> simp only [makesEvents, Bool.false_eq_true] at quiet <;> cases h
    case crossing m inp => exact takeCrossing_recordsFit m (withInputs_calm inp calm) (order inp)
    case lockTimeout inp => exact takeTimeout_recordsFit (withInputs_calm inp calm) (order inp)
    case freeRunDue inp => exact takeFreeRun_recordsFit (withInputs_calm inp calm) (order inp)

theorem step_recordsFit {s t : State} (h : s.recordsFit) (e : step s = .next t) : t.recordsFit := by
  refine step_keeps_settled (P := State.recordsFit) ?_ ?_ ?_ ?_ ?_ s t h e
  · exact fun halt s _ => State.calm.recordsFit_of_none (calm_of_reset rfl rfl rfl) rfl
  · exact fun d s due fits => carryOut_recordsFit d due fits
  · exact fun c f hf s due fits => arrival_recordsFit hf s due fits
  · exact fun s fits => fits.congr (by simp [lineRests_eq]) (by simp [lineRests_eq]) (by simp [lineRests_eq]) (by simp [lineRests_eq])
  · exact fun s q fits => fits.congr rfl rfl rfl rfl

end Sys2Proof.Machine
end

section
/-!
PROOF. A law of the claim table, of the spark queue, of the counters and of the receive FIFO that the operations on each of them keep is
kept by every step (first part of O33).
-/

namespace Sys2Proof.Machine

/-- Laws of the four blocks that everything a step does to one of them keeps. -/
structure BlockLaw (T : List ClaimEntry → Prop) (Q : List Key → Prop) (C : Counters → Prop) (F : List RxFrame → Prop) : Prop where
  noEntry : T []
  put : ∀ k x l, T l → T (putEntry k x l)
  removed : ∀ (p : ClaimEntry → Bool) l, T l → T (l.filter p)
  flagged : ∀ map l, T l → T (flagEntries map l)
  noKey : Q []
  joined : ∀ k q, k ∉ q → Q q → Q (q ++ [k])
  left : ∀ (p : Key → Bool) q, Q q → Q (q.filter p)
  zero : C Counters.reset
  checkError : ∀ x, C x → C { x with checkErrors := saturate x.checkErrors }
  collision : ∀ x, C x → C { x with collisions := saturate x.collisions }
  fifoOverflow : ∀ x, C x → C { x with fifoOverflows := saturate x.fifoOverflows }
  phaseAdjust : ∀ x, C x → C { x with phaseAdjusts := saturate x.phaseAdjusts }
  shed : ∀ x, C x → C { x with sheds := saturate x.sheds }
  ignitionFail : ∀ x, C x → C { x with ignitionFails := saturate x.ignitionFails }
  flameLoss : ∀ x, C x → C { x with flameLosses := saturate x.flameLosses }
  sparkConflict : ∀ x, C x → C { x with sparkConflicts := saturate x.sparkConflicts }
  reduced : ∀ snap x, C x → C (reduceCounters snap x)
  noFrame : F []
  queued : ∀ f l, l.length < 4 → F l → F (l ++ [f])
  delivered : ∀ f l, F (f :: l) → F l

/-- The four laws at a node. -/
structure State.blocks (T : List ClaimEntry → Prop) (Q : List Key → Prop) (C : Counters → Prop) (F : List RxFrame → Prop)
    (s : State) : Prop where
  table : T s.plan.table
  queue : Q s.arbiter.queue
  counters : C s.counters
  fifo : F s.dispatcher.fifo

section
variable {T : List ClaimEntry → Prop} {Q : List Key → Prop} {C : Counters → Prop} {F : List RxFrame → Prop}

theorem State.blocks.congr {s t : State} (h : s.blocks T Q C F) (table : t.plan.table = s.plan.table)
    (queue : t.arbiter.queue = s.arbiter.queue) (counters : t.counters = s.counters)
    (fifo : t.dispatcher.fifo = s.dispatcher.fifo) : t.blocks T Q C F :=
  ⟨table ▸ h.table, queue ▸ h.queue, counters ▸ h.counters, fifo ▸ h.fifo⟩

theorem State.blocks.count {s t : State} (h : s.blocks T Q C F) (table : t.plan.table = s.plan.table)
    (queue : t.arbiter.queue = s.arbiter.queue) (counters : C s.counters → C t.counters)
    (fifo : t.dispatcher.fifo = s.dispatcher.fifo) : t.blocks T Q C F :=
  ⟨table ▸ h.table, queue ▸ h.queue, counters h.counters, fifo ▸ h.fifo⟩

theorem State.blocks.move {s t : State} (h : s.blocks T Q C F) (table : t.plan.table = s.plan.table)
    (queue : Q s.arbiter.queue → Q t.arbiter.queue) (counters : t.counters = s.counters)
    (fifo : t.dispatcher.fifo = s.dispatcher.fifo) : t.blocks T Q C F :=
  ⟨table ▸ h.table, queue h.queue, counters ▸ h.counters, fifo ▸ h.fifo⟩

theorem State.blocks.claim {s t : State} (h : s.blocks T Q C F) (table : T s.plan.table → T t.plan.table)
    (queue : t.arbiter.queue = s.arbiter.queue) (counters : t.counters = s.counters)
    (fifo : t.dispatcher.fifo = s.dispatcher.fifo) : t.blocks T Q C F :=
  ⟨table h.table, queue ▸ h.queue, counters ▸ h.counters, fifo ▸ h.fifo⟩

theorem setTable_blocks {l : List ClaimEntry} {s : State} (h : s.blocks T Q C F) (kept : T s.plan.table → T l) :
    (setTable l s).blocks T Q C F :=
  h.claim kept rfl rfl rfl

theorem countSheds_blocks (law : BlockLaw T Q C F) (results : Vector (Option SwapResult) 4) (s : State)
    (h : s.blocks T Q C F) : (countSheds results s).blocks T Q C F := by
  refine foldl_channels_keeps _ (fun u c hu => ?_) s h
  split
  · exact hu.count rfl rfl (law.shed _) rfl
  · exact hu

theorem takeSwap_blocks (law : BlockLaw T Q C F) {s : State} (h : s.blocks T Q C F) : (takeSwap s).blocks T Q C F := by
  unfold takeSwap
  split
  · exact h
  · exact countSheds_blocks law _ _ (h.claim (law.flagged _ _) rfl rfl rfl)

theorem takeHanded_blocks (c : Channel) {s : State} (h : s.blocks T Q C F) : (takeHanded c s).blocks T Q C F :=
  h.congr (by simp) (by simp) (by simp) (by simp)

theorem takeOne_blocks (law : BlockLaw T Q C F) (x : Taking) {s : State} (h : s.blocks T Q C F) :
    (takeOne x s).blocks T Q C F := by
  have dwell : (takeDwell s).arbiter.queue = s.arbiter.queue := by
    unfold takeDwell
    dsimp only
    (repeat' split) <;> rfl
  have planned : (takePlan s).plan.table = s.plan.table := by unfold takePlan startPlan; split <;> rfl
  cases x with
  | dwell => exact h.congr (by simp [takeOne]) dwell (by simp [takeOne]) (by simp [takeOne])
  | swap => exact takeSwap_blocks law h
  | result c => exact takeHanded_blocks c (takeSwap_blocks law h)
  | relay c =>
    simp only [takeOne, takeRelay]
    split
    · exact (takeSwap_blocks law h).congr rfl rfl rfl rfl
    · exact takeSwap_blocks law h
  | plan => exact h.congr planned (by simp [takeOne]) (by simp [takeOne]) (by simp [takeOne])
  | listen | silence | sample | flame | count | presence | select | handover =>
    exact h.congr (by simp [takeOne]) (by simp [takeOne]) (by simp [takeOne]) (by simp [takeOne])

/-! ## The spark queue and what its moves count -/

theorem setQueue_filter_blocks (law : BlockLaw T Q C F) (p : Key → Bool) {s : State} (h : s.blocks T Q C F) :
    (setQueue (s.arbiter.queue.filter p) s).blocks T Q C F :=
  h.move (by simp) (law.left p _) (by simp) (by simp)

theorem removeKey_blocks (law : BlockLaw T Q C F) (k : Key) {s : State} (h : s.blocks T Q C F) :
    (removeKey k s).blocks T Q C F :=
  h.move (by simp) (fun hq => removeKey_queue k s ▸ law.left _ _ hq) (by simp) (by simp)

theorem appendKey_blocks (law : BlockLaw T Q C F) (k : Key) {s : State} (h : s.blocks T Q C F) :
    (appendKey k s).blocks T Q C F := by
  unfold appendKey
  split
  · exact h
  next absent => exact h.move (by simp) (law.joined k _ absent) (by simp) (by simp)

theorem failAttempt_counters (c : Channel) (s : State) :
    (failAttempt c s).counters = { s.counters with ignitionFails := saturate s.counters.ignitionFails } := by
  unfold failAttempt
  dsimp only
  split <;> simp [countIgnitionFail]

theorem failAttempt_blocks (law : BlockLaw T Q C F) (c : Channel) {s : State} (h : s.blocks T Q C F) :
    (failAttempt c s).blocks T Q C F :=
  h.count (by simp) (by simp) (fun hc => failAttempt_counters c s ▸ law.ignitionFail _ hc) (by simp)

theorem keyLost_blocks (law : BlockLaw T Q C F) (c : Channel) {s : State} (h : s.blocks T Q C F) :
    (keyLost c s).blocks T Q C F := by
  unfold keyLost
  split
  · split
    case h_3 => exact failAttempt_blocks law c h
    all_goals exact h.congr (by simp) (by simp) (by simp) (by simp)
  · exact h

theorem dropKey_blocks (law : BlockLaw T Q C F) (k : Key) {s : State} (h : s.blocks T Q C F) : (dropKey k s).blocks T Q C F := by
  unfold dropKey
  split
  · exact keyLost_blocks law _ (removeKey_blocks law k h)
  · exact removeKey_blocks law k h

/-- A STOP changes none of the four blocks: of the arbiter it changes the free-outstanding indications. -/
theorem stopChannel_queue (c : Channel) (s : State) : (stopChannel c s).arbiter.queue = s.arbiter.queue := by
  unfold stopChannel clearLockout
  split
  · rfl
  · split <;> simp

theorem stopChannel_blocks (c : Channel) (s : State) (h : s.blocks T Q C F) : (stopChannel c s).blocks T Q C F :=
  h.congr (by simp) (stopChannel_queue c s) (by simp) (by simp)

theorem named_blocks {g : Channel → State → State} (hg : g = startOn ∨ g = holdOn ∨ g = resumeOn ∨ g = stopOn) (c : Channel)
    (s : State) (h : s.blocks T Q C F) : (g c s).blocks T Q C F := by
  obtain rfl | rfl | rfl | rfl := hg
  case inr.inr.inr =>
    unfold stopOn
    split
    · exact h.congr (by simp) (by simp) (by simp) (by simp)
    · exact stopChannel_blocks c s h
  all_goals exact h.congr (by simp) (by simp) (by simp) (by simp)

theorem sparkPoint_blocks (law : BlockLaw T Q C F) (busy : Bool) {s : State} (h : s.blocks T Q C F) :
    (sparkPoint busy s).blocks T Q C F := by
  have conflict : (countSparkConflict s).blocks T Q C F := h.count rfl rfl (law.sparkConflict _) rfl
  have gaveWay : ∀ c, (giveWay c s).blocks T Q C F := fun c =>
    h.congr (by simp) (by simp [giveWay, raiseSpark]) (by simp) (by simp)
  unfold sparkPoint considerStart
  split
  · exact h
  · split
    · exact h
    · split
      · split
        · exact gaveWay _
        · exact h
      · split
        · exact h
        · split
          · exact conflict
          · exact h.congr (by simp) (by simp) (by simp) (by simp)

/-! ## The whole step -/

theorem reset_blocks (law : BlockLaw T Q C F) {s : State} (table : s.plan.table = []) (queue : s.arbiter.queue = [])
    (counters : C s.counters) (fifo : s.dispatcher.fifo = []) : s.blocks T Q C F :=
  ⟨table ▸ law.noEntry, queue ▸ law.noKey, counters, fifo ▸ law.noFrame⟩

theorem enterConfigFault_blocks {s : State} (h : s.blocks T Q C F) : (enterConfigFault s).blocks T Q C F :=
  h.congr rfl rfl rfl rfl

theorem takeChar_blocks (law : BlockLaw T Q C F) (ch : LineChar) {s : State} (h : s.blocks T Q C F) :
    (takeChar ch s).blocks T Q C F := by
  refine takeChar_keeps ?receiver ?clash ?queue ?checkError ?success ?sent ?abort ch s h
  case receiver => exact fun _ _ h => h.congr rfl rfl rfl rfl
  case clash => exact fun _ h => enterConfigFault_blocks h
  case queue =>
    intro f s h
    unfold queueFrame
    split
    next room => exact ⟨h.table, h.queue, h.counters, law.queued f _ room h.fifo⟩
    next => exact h.count rfl rfl (law.fifoOverflow _) rfl
  case checkError => exact fun _ h => h.count rfl rfl (law.checkError _) rfl
  case success =>
    intro x s h
    refine h.count (by simp) (by simp) (fun hc => ?_) (by simp)
    unfold transmitSuccess ownerSuccess
    split
    case h_1 => simpa using hc
    case h_2 => exact law.reduced _ _ hc
    all_goals exact hc
  case sent => exact fun _ _ h => h.congr rfl rfl rfl rfl
  case abort => exact fun _ h => h.count rfl rfl (law.collision _) rfl

theorem takePresence_blocks (law : BlockLaw T Q C F) (f : RxFrame) {s : State} (active : s.active = true)
    (h : s.blocks T Q C F) : (takePresence f s).blocks T Q C F := by
  refine takePresence_keeps ?peers ?budget ?adopt ?claim ?spark f s active h
  case peers => exact fun _ _ h => h.congr rfl rfl rfl rfl
  case budget => exact fun _ _ h => h.congr rfl rfl rfl rfl
  case adopt =>
    intro x y s _ h
    unfold adoptPhase
    dsimp only
    split
    · exact h
    · exact h.count rfl rfl (law.phaseAdjust _) rfl
  case claim =>
    intro st body s c h
    have restated : (setTable (restateEntry s.burst ⟨st, c⟩ (readSummary body c) s.plan.table) s).blocks T Q C F := by
      refine setTable_blocks h fun ht => ?_
      unfold restateEntry
      dsimp only
      split
      · split
        · exact law.put _ _ _ ht
        · exact ht
      · exact law.removed _ _ ht
    unfold restateClaim
    dsimp only
    split
    · exact restated.congr (by simp) (by simp) (by simp) (by simp)
    · exact restated
  case spark =>
    intro st body s c h
    unfold restateSpark
    dsimp only
    split
    · split
      · exact h
      · split
        · exact (appendKey_blocks law ⟨st, c⟩ h).congr (by simp) (by simp) (by simp) (by simp)
        · exact appendKey_blocks law _ h
    · exact dropKey_blocks law _ h

/-- Every piece of a step keeps the laws of the four blocks. -/
theorem blocks_kept (law : BlockLaw T Q C F) : StepKeeps (State.blocks T Q C F) where
  bookkeeping _ _ h := h.congr rfl rfl rfl rfl
  pins _ _ h := h.congr rfl rfl rfl rfl
  coldReset _ _ _ := reset_blocks law rfl rfl law.zero rfl
  taking x _ _ h := (takeOne_blocks law x h).congr (by simp) (by simp) (by simp) (by simp)
  openEvent _ _ _ h := h.congr (by simp) (by simp) (by simp) (by simp)
  locking _ h := h.congr rfl rfl rfl rfl
  losing _ h := h.congr rfl rfl rfl rfl
  generator _ _ _ _ h _ _ := h.congr rfl rfl rfl rfl
  stamp _ _ h := h.congr rfl rfl rfl rfl
  reference _ _ h := h.congr rfl rfl rfl rfl
  running _ _ _ h := h.congr rfl rfl rfl rfl
  judging _ _ _ h := h.congr rfl rfl rfl rfl
  second _ _ h := h.congr (by simp) (by simp) (by simp) (by simp)
  expiry _ _ h := h.congr (by simp) (by simp) (by simp) (by simp)
  flamePresent c s h := by
    refine h.congr (by simp) ?_ (by simp) (by simp)
    simp only [reporting_frame, flamePresentStep, sequencerRest_frame]
    unfold flameAppears
    split <;> simp
  flameAbsent c s h := by
    refine h.count (by simp) (by simp) (fun hc => ?_) (by simp)
    simp only [reporting_frame, flameAbsentStep, sequencerRest_frame]
    unfold flameVanishes
    split
    · simpa [countFlameLoss] using law.flameLoss _ hc
    all_goals exact hc
  ignitionEnd c s h := by
    refine State.blocks.congr (s := ignitionEndStep c s) ?_ (by simp) (by simp) (by simp) (by simp)
    unfold ignitionEndStep
    split
    · exact failAttempt_blocks law c h
    · exact h
  purgeEnd _ _ h := h.congr (by simp) (by simp) (by simp) (by simp)
  relightEnd c s h := by
    refine h.congr (by simp) ?_ (by simp) (by simp)
    simp only [reporting_frame, relightEndStep]
    split <;> simp
  holdLimit s h := by
    refine State.blocks.congr (s := holdLimitStep s) ?_ (by simp) (by simp) (by simp) (by simp)
    unfold holdLimitStep
    split
    · exact h
    · exact dropKey_blocks law _ (h.count rfl rfl (law.sparkConflict _) rfl)
  departure a s h := by
    have cleared : (setRecord a PeerRecord.reset s).blocks T Q C F := h.congr rfl rfl rfl rfl
    unfold departureStep
    dsimp only
    split
    · exact cleared
    · exact (setQueue_filter_blocks law _ (setTable_blocks cleared (law.removed _ _))).congr (by simp; rfl) (by simp; rfl)
        (by simp) (by simp)
  enterRun _ h := h.congr (by simp) (by simp) (by simp) (by simp)
  presenceDue _ h := h.congr (by simp) (by simp) (by simp) (by simp)
  enterHold _ h := h.congr rfl rfl rfl rfl
  optionRead m block s h _ := by
    unfold endOptionRead
    split
    · exact h.congr rfl rfl rfl rfl
    · exact enterConfigFault_blocks (h.congr rfl rfl rfl rfl)
  halt s h :=
    haltEffect_keeps (fun hu => hu.congr (by simp) (by simp) (by simp) (by simp))
      (fun u hu => hu.congr (by simp) (by simp) (by simp) (by simp)) (stopAll_keeps stopChannel_blocks s h) h
  plan _ h := h.congr (by simp) (by simp) (by simp) (by simp)
  startPoint b _ _ h := (sparkPoint_blocks law b h).congr (by simp) (by simp) (by simp) (by simp)
  handover _ _ _ h := h.congr rfl rfl rfl rfl
  elementLevel _ _ _ _ h := h.congr (by simp) (by simp) (by simp) (by simp)
  elementLevelInEvent _ _ _ _ h := h.congr (by simp) (by simp) (by simp) (by simp)
  gasLevel _ _ _ _ h := h.congr (by simp) (by simp) (by simp) (by simp)
  deferEnd _ _ h := h.congr (by simp) (by simp) (by simp) (by simp)
  char ch _ h := takeChar_blocks law ch h
  line _ _ h := h.congr (by simp) (by simp) (by simp) (by simp)
  gap s h := by
    have rested : (lineRests s).blocks T Q C F := h.congr (by simp) (by simp) (by simp) (by simp)
    unfold lineGap
    dsimp only
    split
    · exact rested.count rfl rfl (law.checkError _) rfl
    · exact rested
  quiet _ h := h.congr (by simp) (by simp) (by simp) (by simp)
  removed s f rest fifo h := ⟨h.table, h.queue, h.counters, law.delivered f rest (fifo ▸ h.fifo)⟩
  presence f s active h := (takePresence_blocks law f active h).congr (by simp) (by simp) (by simp) (by simp)
  claim f s _ h := by
    unfold takeClaim
    dsimp only
    split
    · exact h
    · split
      · exact h
      · split
        · exact h.claim (fun ht => by simpa [setTable] using law.put _ _ _ ht) (by simp) (by simp) (by simp)
        · exact setTable_blocks h (law.put _ _ _)
  release f s _ h := by
    unfold takeRelease
    split
    · exact h
    · split
      · exact h
      · exact setTable_blocks h (law.removed _ _)
  spark f s _ h := by
    unfold takeSpark
    split
    · exact h
    next k _ =>
      split
      · have cleared : (clearOutstanding k.channel s).blocks T Q C F := h.congr rfl rfl rfl rfl
        exact (appendKey_blocks law k cleared).congr (by simp) (by simp) (by simp) (by simp)
      · exact appendKey_blocks law k h
  sparkFree f s _ h := by
    unfold takeSparkFree
    split
    · exact h
    next k _ =>
      split
      · exact removeKey_blocks law k (h.congr rfl rfl rfl rfl)
      · exact removeKey_blocks law k h
  program _ _ _ h := h.congr (by simp) (by simp) (by simp) (by simp)
  masked g f s hg _ h := by
    unfold takeMasked
    split
    · exact (onNamed_keeps f.body g (named_blocks hg) s h).congr (by simp) (by simp) (by simp) (by simp)
    · exact h
  haltAll s _ h := (stopAll_keeps stopChannel_blocks s h).congr (by simp) (by simp) (by simp) (by simp)
  query _ _ _ h := h.congr (by simp) (by simp) (by simp) (by simp)
  restart m f s _ h := by
    unfold takeRestart
    split
    · exact reset_blocks law rfl rfl h.counters rfl
    · exact h

/-- A law of the four blocks is kept by every step. -/
theorem step_blocks (law : BlockLaw T Q C F) {s t : State} (h : s.blocks T Q C F) (e : step s = .next t) : t.blocks T Q C F :=
  (blocks_kept law).step (fun _ _ h => h.congr rfl rfl rfl rfl) s t h e

end

end Sys2Proof.Machine
end

section
/-!
PROOF. The pending flags: what each operation reads and changes of them, and the reports of an event (R140, R161).
-/

namespace Sys2Proof.Machine

/-! ## States and Transmitters by their parts -/

/-- Two states are equal where their blocks are. -/
theorem State.eq_iff {s t : State} : s = t ↔
    s.base = t.base ∧ s.programs = t.programs ∧ s.handovers = t.handovers ∧ s.elements = t.elements ∧ s.gas = t.gas ∧
    s.plan = t.plan ∧ s.arbiter = t.arbiter ∧ s.peers = t.peers ∧ s.receiver = t.receiver ∧ s.dispatcher = t.dispatcher ∧
    s.tx = t.tx ∧ s.counters = t.counters ∧ s.loader = t.loader ∧ s.pins = t.pins ∧ s.event = t.event ∧
    s.pending = t.pending := by
  cases s
  cases t
  simp

/-- A Transmitter without its selection and frame is its flags and its rotation pointers. -/
theorem Transmitter.eq_of_flags {x y : Transmitter} (flags : ∀ r, flagOf x r = flagOf y r)
    (pointers : ∀ k, (channelFlags x k).pointer = (channelFlags y k).pointer) (selection : x.selection = y.selection)
    (sent : x.sent = y.sent) (attempted : x.attempted = y.attempted) : x = y := by
  have kind : ∀ k, channelFlags x k = channelFlags y k := by
    intro k
    have same : (channelFlags x k).flags = (channelFlags y k).flags :=
      Vector.ext fun i hi => flags (.ofChannel k ⟨i, hi⟩)
    have pointer := pointers k
    generalize channelFlags x k = a at same pointer
    generalize channelFlags y k = b at same pointer
    cases a
    cases b
    simp_all
  have halt : x.halt = y.halt := flags .haltAll
  have presence : x.presence = y.presence := flags .presence
  have counts : x.counts = y.counts := flags .counts
  have claim : x.claim = y.claim := kind .claim
  have release : x.release = y.release := kind .release
  have spark : x.spark = y.spark := kind .spark
  have sparkFree : x.sparkFree = y.sparkFree := kind .sparkFree
  have state : x.state = y.state := kind .state
  cases x
  cases y
  simp_all

/-! ## Setting one flag -/

theorem flagOf_setFlagOf (tx : Transmitter) (r q : Request) (f : Flag) :
    flagOf (setFlagOf tx r f) q = if q = r then f else flagOf tx q := by
  split
  next same => rw [same, flagOf_setFlagOf_self]
  next other => exact flagOf_setFlagOf_of_ne tx r q f other

@[simp] theorem pointer_setFlagOf (tx : Transmitter) (r : Request) (f : Flag) (k : ChannelRequest) :
    (channelFlags (setFlagOf tx r f) k).pointer = (channelFlags tx k).pointer := by
  rcases r with _ | _ | _ | ⟨l, c⟩
  case ofChannel => cases l <;> cases k <;> rfl
  all_goals cases k <;> rfl

theorem flagOf_raiseFlag (r q : Request) (s : State) :
    flagOf (raiseFlag r s).tx q = if q = r then raised (flagOf s.tx r) else flagOf s.tx q :=
  flagOf_setFlagOf _ _ _ _

theorem flagOf_lowerFlag (r q : Request) (s : State) :
    flagOf (lowerFlag r s).tx q = if q = r then lowered (flagOf s.tx r) else flagOf s.tx q :=
  flagOf_setFlagOf _ _ _ _

theorem flagOf_raiseState (c : Channel) (q : Request) (s : State) : flagOf (raiseState c s).tx q =
    if q = .ofChannel .state c then raised (flagOf s.tx (.ofChannel .state c)) else flagOf s.tx q :=
  flagOf_raiseFlag _ _ _

theorem flagOf_raiseSpark (c : Channel) (q : Request) (s : State) : flagOf (raiseSpark c s).tx q =
    if q = .ofChannel .spark c then raised (flagOf s.tx (.ofChannel .spark c)) else flagOf s.tx q :=
  flagOf_raiseFlag _ _ _

theorem flagOf_raiseSparkFree (c : Channel) (q : Request) (s : State) : flagOf (raiseSparkFree c s).tx q =
    if q = .ofChannel .sparkFree c then raised (flagOf s.tx (.ofChannel .sparkFree c)) else flagOf s.tx q :=
  flagOf_raiseFlag _ _ _

theorem flagOf_raiseClaim (c : Channel) (q : Request) (s : State) : flagOf (raiseClaim c s).tx q =
    if q = .ofChannel .release c then lowered (flagOf s.tx (.ofChannel .release c))
    else if q = .ofChannel .claim c then raised (flagOf s.tx (.ofChannel .claim c)) else flagOf s.tx q := by
  simp [raiseClaim, flagOf_lowerFlag, flagOf_raiseFlag]

theorem flagOf_raiseRelease (c : Channel) (q : Request) (s : State) : flagOf (raiseRelease c s).tx q =
    if q = .ofChannel .claim c then lowered (flagOf s.tx (.ofChannel .claim c))
    else if q = .ofChannel .release c then raised (flagOf s.tx (.ofChannel .release c)) else flagOf s.tx q := by
  simp [raiseRelease, flagOf_lowerFlag, flagOf_raiseFlag]

@[simp] theorem raised_isSet (f : Flag) : (raised f).isSet = true := rfl
@[simp] theorem lowered_isSet (f : Flag) : (lowered f).isSet = false := rfl

/-! ## Which flags may differ -/

section
variable {changed changed' : Request → Prop} {x y z : Transmitter}

theorem onlyFlags.refl (changed : Request → Prop) (x : Transmitter) : onlyFlags changed x x :=
  ⟨fun _ _ => rfl, fun _ => rfl, rfl, rfl, rfl⟩

theorem onlyFlags.of_eq (same : y = x) : onlyFlags changed x y := same ▸ onlyFlags.refl changed y

theorem onlyFlags.trans (first : onlyFlags changed x y) (second : onlyFlags changed y z) : onlyFlags changed x z := by
  obtain ⟨flags, pointers, selection, sent, attempted⟩ := first
  obtain ⟨flags', pointers', selection', sent', attempted'⟩ := second
  exact ⟨fun r hr => (flags' r hr).trans (flags r hr), fun k => (pointers' k).trans (pointers k), selection'.trans selection,
    sent'.trans sent, attempted'.trans attempted⟩

theorem onlyFlags.mono (h : onlyFlags changed x y) (le : ∀ r, changed r → changed' r) : onlyFlags changed' x y :=
  ⟨fun r hr => h.1 r fun changes => hr (le r changes), h.2⟩

theorem onlyFlags.flag (h : onlyFlags changed x y) {r : Request} (kept : ¬ changed r) : flagOf y r = flagOf x r := h.1 r kept

/-- What a change of the flags begins with may differ from `s` in every other block. -/
theorem onlyFlags.after {t u : State} (h : onlyFlags changed u.tx t.tx) (same : u.tx = x) : onlyFlags changed x t.tx :=
  same ▸ h

/-- Where no flag may differ nothing does. -/
theorem onlyFlags.eq_of_none (h : onlyFlags changed x y) (none : ∀ r, ¬ changed r) : y = x :=
  Transmitter.eq_of_flags (fun r => h.1 r (none r)) h.2.1 h.2.2.1 h.2.2.2.1 h.2.2.2.2

/-- The flags that may differ are those that do. -/
theorem onlyFlags.of_flags (h : onlyFlags changed x y) (kept : ∀ r, ¬ changed' r → flagOf y r = flagOf x r) :
    onlyFlags changed' x y :=
  ⟨kept, h.2⟩

end

theorem setFlagOf_only (tx : Transmitter) (r : Request) (f : Flag) : onlyFlags (· = r) tx (setFlagOf tx r f) :=
  ⟨fun q other => flagOf_setFlagOf_of_ne tx r q f other, fun k => by simp, by simp, by simp, by simp⟩

theorem raiseFlag_only (r : Request) (s : State) : onlyFlags (· = r) s.tx (raiseFlag r s).tx := setFlagOf_only _ _ _

theorem lowerFlag_only (r : Request) (s : State) : onlyFlags (· = r) s.tx (lowerFlag r s).tx := setFlagOf_only _ _ _

/-- The flags of a channel's claim (R83). -/
def claimFlags (c : Channel) (r : Request) : Prop := r = .ofChannel .claim c ∨ r = .ofChannel .release c

/-- The flags of a channel's spark (R97, R98). -/
def sparkFlags (c : Channel) (r : Request) : Prop := r = .ofChannel .spark c ∨ r = .ofChannel .sparkFree c

theorem raiseClaim_only (c : Channel) (s : State) : onlyFlags (claimFlags c) s.tx (raiseClaim c s).tx :=
  ((raiseFlag_only _ s).mono fun _ h => .inl h).trans ((lowerFlag_only _ _).mono fun _ h => .inr h)

theorem raiseRelease_only (c : Channel) (s : State) : onlyFlags (claimFlags c) s.tx (raiseRelease c s).tx :=
  ((raiseFlag_only _ s).mono fun _ h => .inr h).trans ((lowerFlag_only _ _).mono fun _ h => .inl h)

theorem raiseSpark_only (c : Channel) (s : State) : onlyFlags (· = .ofChannel .spark c) s.tx (raiseSpark c s).tx :=
  raiseFlag_only _ s

theorem raiseSparkFree_only (c : Channel) (s : State) :
    onlyFlags (· = .ofChannel .sparkFree c) s.tx (raiseSparkFree c s).tx :=
  raiseFlag_only _ s

theorem raiseState_only (c : Channel) (s : State) : onlyFlags (· = .ofChannel .state c) s.tx (raiseState c s).tx :=
  raiseFlag_only _ s

theorem refuse_only (c : Channel) (s : State) : onlyFlags (· = .ofChannel .state c) s.tx (refuse c s).tx :=
  raiseFlag_only _ _

/-! ## The reports of an event (R161) -/

theorem noteChannel_only (b s : State) (c : Channel) :
    onlyFlags (fun r => r = .ofChannel .state c ∧ reportedOf b c ≠ reportedOf s c) s.tx (noteChannel b s c).tx := by
  unfold noteChannel
  split
  · exact onlyFlags.refl _ _
  next differs => exact (raiseState_only c s).mono fun r hr => ⟨hr, differs⟩

/-- What a channel reports is read from its program, its driver and its burner (R161). -/
theorem reportedOf_congr {s t : State} {c : Channel} (programs : t.programs[c] = s.programs[c])
    (elements : t.elements[c] = s.elements[c]) (gas : t.gas[c] = s.gas[c]) (options : t.loader.options = s.loader.options) :
    reportedOf t c = reportedOf s c := by
  simp only [reportedOf, heatCode, strayShown, State.kind, programs, elements, gas, options]

@[simp] theorem reportedOf_noteChannel (b s : State) (c d : Channel) : reportedOf (noteChannel b s c) d = reportedOf s d :=
  reportedOf_congr (by simp) (by simp) (by simp) (by simp)

theorem flagOf_noteChannel_state (b s : State) (c d : Channel) :
    flagOf (noteChannel b s c).tx (.ofChannel .state d) =
      if d = c ∧ reportedOf b c ≠ reportedOf s c then raised (flagOf s.tx (.ofChannel .state d))
      else flagOf s.tx (.ofChannel .state d) := by
  unfold noteChannel
  split
  next same => simp [same]
  next differs =>
    rw [flagOf_raiseState]
    by_cases hd : d = c <;> simp [hd, differs]

theorem noteReports_only (b s : State) :
    onlyFlags (fun r => ∃ c, r = .ofChannel .state c ∧ reportedOf b c ≠ reportedOf s c) s.tx (noteReports b s).tx := by
  have one : ∀ (c : Channel) (u : State), (∀ d, reportedOf u d = reportedOf s d) →
      onlyFlags (fun r => ∃ c, r = .ofChannel .state c ∧ reportedOf b c ≠ reportedOf s c) u.tx (noteChannel b u c).tx :=
    fun c u same => (noteChannel_only b u c).mono fun r hr => ⟨c, hr.1, same c ▸ hr.2⟩
  simp only [noteReports, allChannels, List.foldl_cons, List.foldl_nil]
  exact (((one 0 s (by simp)).trans (one 1 _ (by simp))).trans (one 2 _ (by simp))).trans (one 3 _ (by simp))

theorem flagOf_noteReports_state (b s : State) (c : Channel) :
    flagOf (noteReports b s).tx (.ofChannel .state c) =
      if reportedOf b c = reportedOf s c then flagOf s.tx (.ofChannel .state c)
      else raised (flagOf s.tx (.ofChannel .state c)) := by
  simp only [noteReports, allChannels, List.foldl_cons, List.foldl_nil, flagOf_noteChannel_state, reportedOf_noteChannel]
  have once : ∀ d : Channel, d = 0 ∨ d = 1 ∨ d = 2 ∨ d = 3 := by decide
  by_cases same : reportedOf b c = reportedOf s c
  · rcases once c with rfl | rfl | rfl | rfl <;> simp [same]
  · rcases once c with rfl | rfl | rfl | rfl <;> simp [same]

theorem flagOf_noteReports_other (b s : State) (k : ChannelRequest) (c : Channel) (other : k ≠ .state) :
    flagOf (noteReports b s).tx (.ofChannel k c) = flagOf s.tx (.ofChannel k c) :=
  flagOf_noteReports b s _ (by simp [other])

/-- Where no channel's report has changed none is made. -/
theorem noteReports_of_same {b s : State} (same : ∀ c, reportedOf b c = reportedOf s c) : noteReports b s = s := by
  simp [noteReports, noteChannel, allChannels, same]

theorem noteReports_congr {b b' : State} (s : State) (same : ∀ c, reportedOf b' c = reportedOf b c) :
    noteReports b' s = noteReports b s := by
  simp [noteReports, noteChannel, allChannels, same]

theorem asked_noteReports {b s : State} {c : Channel} (differs : reportedOf b c ≠ reportedOf s c) :
    (noteReports b s).asked (.ofChannel .state c) = true := by
  rw [State.asked, flagOf_noteReports_state, if_neg differs]
  rfl

end Sys2Proof.Machine
end

section
/-!
PROOF. Which flags each operation of a block may change (R140).
-/

namespace Sys2Proof.Machine

/-! ## Element channels (R83, R85) -/

theorem standingRelease_only (c : Channel) (s : State) : onlyFlags (claimFlags c) s.tx (standingRelease c s).tx := by
  unfold standingRelease
  split
  · exact raiseRelease_only c s
  · exact onlyFlags.refl _ _

theorem leaveShare_only (c : Channel) (heat : ElementHeat) (s : State) :
    onlyFlags (claimFlags c) s.tx (leaveShare c heat s).tx := by
  unfold leaveShare
  exact ((raiseRelease_only c _).trans (standingRelease_only c _)).after rfl

theorem startWanting_only (c : Channel) (s : State) : onlyFlags (claimFlags c) s.tx (startWanting c s).tx := by
  unfold startWanting
  split
  · exact (standingRelease_only c _).after rfl
  · exact (raiseClaim_only c _).after rfl

theorem takeElementLevel_only (c : Channel) (level : Nat) (s : State) :
    onlyFlags (claimFlags c) s.tx (takeElementLevel c level s).tx := by
  unfold takeElementLevel
  dsimp only
  split
  · split
    case h_1 => exact onlyFlags.refl _ _
    case h_2 => exact (standingRelease_only c _).after rfl
    all_goals exact (leaveShare_only c _ _).after rfl
  · split
    case h_1 => exact (startWanting_only c _).after rfl
    case h_2 => exact onlyFlags.refl _ _
    all_goals
      split
      · exact onlyFlags.refl _ _
      · exact (raiseClaim_only c _).after rfl

theorem sampleDemand_only (c : Channel) (active : Bool) (s : State) :
    onlyFlags (claimFlags c) s.tx (sampleDemand c active s).tx := by
  unfold sampleDemand
  dsimp only
  split
  case h_1 => exact (raiseClaim_only c _).after rfl
  case h_2 | h_3 | h_4 => exact (leaveShare_only c _ _).after rfl
  all_goals exact onlyFlags.refl _ _

theorem takeSample_only (c : Channel) (s : State) : onlyFlags (claimFlags c) s.tx (takeSample c s).tx := by
  unfold takeSample
  split
  · exact onlyFlags.refl _ _
  · exact (sampleDemand_only c _ _).after (by simp)

/-! ## Gas channels (R97, R112) -/

section
variable (c : Channel) (s : State)

theorem freeIfQueued_only : onlyFlags (· = .ofChannel .sparkFree c) s.tx (freeIfQueued c s).tx := by
  unfold freeIfQueued
  split
  · exact raiseSparkFree_only c s
  · exact onlyFlags.refl _ _

theorem standingFree_only : onlyFlags (· = .ofChannel .sparkFree c) s.tx (standingFree c s).tx := by
  unfold standingFree
  split
  · exact raiseSparkFree_only c s
  · exact onlyFlags.refl _ _

theorem enterWaitSpark_only : onlyFlags (· = .ofChannel .spark c) s.tx (enterWaitSpark c s).tx := by
  unfold enterWaitSpark
  simp only [strayTest_frame]
  exact (raiseSpark_only c _).after rfl

theorem enterLockout_only (cause : FaultCode) : onlyFlags (· = .ofChannel .sparkFree c) s.tx (enterLockout c cause s).tx := by
  unfold enterLockout
  simp only [lockoutReport_frame]
  exact (standingFree_only c _).after rfl

theorem failAttempt_only : onlyFlags (· = .ofChannel .sparkFree c) s.tx (failAttempt c s).tx := by
  have freed : ∀ g, onlyFlags (· = .ofChannel .sparkFree c) s.tx (freeIfQueued c (s.setGas c g)).tx := fun g =>
    (freeIfQueued_only c _).after rfl
  unfold failAttempt
  dsimp only
  split
  · exact (freed _).trans ((standingFree_only c _).after rfl)
  · exact (freed _).trans ((enterLockout_only c _ _).after rfl)

theorem keyLost_only : onlyFlags (sparkFlags c) s.tx (keyLost c s).tx := by
  unfold keyLost
  split
  · split
    case h_1 | h_2 | h_4 => exact ((raiseSpark_only c _).after rfl).mono fun _ h => .inl h
    case h_3 => exact (failAttempt_only c s).mono fun _ h => .inr h
    all_goals exact onlyFlags.refl _ _
  · exact onlyFlags.refl _ _

theorem dropKey_only (k : Key) : onlyFlags (sparkFlags k.channel) s.tx (dropKey k s).tx := by
  have removed : onlyFlags (sparkFlags k.channel) s.tx (removeKey k s).tx := onlyFlags.of_eq (by simp)
  unfold dropKey
  split
  · exact removed.trans (keyLost_only _ _)
  · exact removed

theorem endWanting_only : onlyFlags (sparkFlags c) s.tx (endWanting c s).tx := by
  unfold endWanting
  exact ((((lowerFlag_only _ _).mono fun _ h => .inl h).trans ((freeIfQueued_only c _).mono fun _ h => .inr h)).trans
    ((standingFree_only c _).mono fun _ h => .inr h)).after rfl

theorem takeGasLevel_only (level : Nat) : onlyFlags (sparkFlags c) s.tx (takeGasLevel c level s).tx := by
  have began : ∀ u : State, onlyFlags (sparkFlags c) u.tx (enterWaitSpark c u).tx := fun u =>
    (enterWaitSpark_only c u).mono fun _ h => .inl h
  unfold takeGasLevel
  dsimp only
  split
  case h_1 =>
    split
    · exact onlyFlags.refl _ _
    · exact (began _).after rfl
  case h_2 => exact onlyFlags.refl _ _
  all_goals
    split
    · exact (endWanting_only c _).after rfl
    · exact onlyFlags.refl _ _

theorem clearLockout_only : onlyFlags (· = .ofChannel .sparkFree c) s.tx (clearLockout c s).tx := by
  unfold clearLockout
  split
  · exact (standingFree_only c _).after rfl
  · exact onlyFlags.refl _ _

theorem stopChannel_only : onlyFlags (· = .ofChannel .sparkFree c) s.tx (stopChannel c s).tx := by
  unfold stopChannel
  split
  · exact onlyFlags.refl _ _
  · exact (clearLockout_only c _).after (by simp)

theorem flameAppears_only : onlyFlags (sparkFlags c) s.tx (flameAppears c s).tx := by
  have relit : ∀ u : State, onlyFlags (sparkFlags c) u.tx
      (standingFree c (lowerFlag (.ofChannel .spark c) (freeIfQueued c u))).tx := fun u =>
    (((freeIfQueued_only c u).mono fun _ h => .inr h).trans ((lowerFlag_only _ _).mono fun _ h => .inl h)).trans
      ((standingFree_only c _).mono fun _ h => .inr h)
  unfold flameAppears
  split
  case h_1 => exact (((raiseSparkFree_only c _).trans (standingFree_only c _)).after rfl).mono fun _ h => .inr h
  case h_2 | h_3 => exact (relit _).after rfl
  case h_4 => exact onlyFlags.of_eq (by simp)
  all_goals exact onlyFlags.refl _ _

theorem flameVanishes_only : onlyFlags (· = .ofChannel .spark c) s.tx (flameVanishes c s).tx := by
  unfold flameVanishes
  split
  case h_1 => exact ((raiseSpark_only c _).trans (onlyFlags.of_eq rfl)).after rfl
  all_goals exact onlyFlags.refl _ _

theorem flamePresentStep_only : onlyFlags (sparkFlags c) s.tx (flamePresentStep c s).tx := by
  unfold flamePresentStep
  simp only [sequencerRest_frame]
  exact (flameAppears_only c _).after rfl

theorem flameAbsentStep_only : onlyFlags (· = .ofChannel .spark c) s.tx (flameAbsentStep c s).tx := by
  unfold flameAbsentStep
  simp only [sequencerRest_frame]
  exact (flameVanishes_only c _).after rfl

theorem ignitionEndStep_only : onlyFlags (· = .ofChannel .sparkFree c) s.tx (ignitionEndStep c s).tx := by
  unfold ignitionEndStep
  split
  · exact failAttempt_only c s
  · exact onlyFlags.refl _ _

theorem purgeEndStep_only : onlyFlags (· = .ofChannel .spark c) s.tx (purgeEndStep c s).tx := by
  unfold purgeEndStep
  split
  · exact enterWaitSpark_only c s
  · exact onlyFlags.refl _ _

theorem relightEndStep_only : onlyFlags (· = .ofChannel .sparkFree c) s.tx (relightEndStep c s).tx := by
  unfold relightEndStep
  split
  · exact ((freeIfQueued_only c _).trans (enterLockout_only c _ _)).after rfl
  · exact onlyFlags.refl _ _

theorem giveWay_only : onlyFlags (sparkFlags c) s.tx (giveWay c s).tx :=
  ((raiseSparkFree_only c s).mono fun _ h => .inr h).trans ((raiseSpark_only c _).mono fun _ h => .inl h)

theorem considerStart_only (busy : Bool) : onlyFlags (sparkFlags c) s.tx (considerStart c busy s).tx := by
  unfold considerStart
  split
  · exact onlyFlags.refl _ _
  · split
    · split
      · exact giveWay_only c s
      · exact onlyFlags.refl _ _
    · split
      · exact onlyFlags.refl _ _
      · split
        · exact onlyFlags.refl _ _
        · exact onlyFlags.of_eq (by simp)

end

/-- The flags of some channel's spark. -/
def anySparkFlags (r : Request) : Prop := ∃ c, sparkFlags c r

theorem sparkPoint_only (busy : Bool) (s : State) : onlyFlags anySparkFlags s.tx (sparkPoint busy s).tx := by
  unfold sparkPoint
  split
  · exact onlyFlags.refl _ _
  · exact (considerStart_only _ s _).mono fun _ h => ⟨_, h⟩

theorem holdLimitStep_only (s : State) : onlyFlags anySparkFlags s.tx (holdLimitStep s).tx := by
  unfold holdLimitStep
  split
  · exact onlyFlags.refl _ _
  · exact ((dropKey_only _ _).after rfl).mono fun _ h => ⟨_, h⟩

/-! ## Programs (R24, R161) -/

section
variable (c : Channel) (s : State)

theorem updateProgram_only (p : Program) (changed : Request → Prop) : onlyFlags changed s.tx (updateProgram c p s).tx :=
  onlyFlags.of_eq (by simp)

theorem programOn_only (n : ProgramNotice) : onlyFlags (· = .ofChannel .state c) s.tx (programOn n c s).tx := by
  unfold programOn
  split
  · exact refuse_only c s
  · split
    · exact refuse_only c s
    · split
      · exact refuse_only c s
      · dsimp only
        split
        · exact onlyFlags.of_eq (by simp)
        · exact onlyFlags.of_eq (by simp)

theorem startOn_only : onlyFlags (· = .ofChannel .state c) s.tx (startOn c s).tx := by
  unfold startOn
  split
  · exact refuse_only c s
  · split
    · exact updateProgram_only c s _ _
    · exact refuse_only c s

theorem holdOn_only : onlyFlags (· = .ofChannel .state c) s.tx (holdOn c s).tx := by
  unfold holdOn
  split
  · exact refuse_only c s
  · split
    · exact updateProgram_only c s _ _
    · exact onlyFlags.refl _ _

theorem resumeOn_only : onlyFlags (· = .ofChannel .state c) s.tx (resumeOn c s).tx := by
  unfold resumeOn
  split
  · exact refuse_only c s
  · split
    · exact updateProgram_only c s _ _
    · exact onlyFlags.refl _ _

theorem stopOn_only :
    onlyFlags (fun r => r = .ofChannel .state c ∨ r = .ofChannel .sparkFree c) s.tx (stopOn c s).tx := by
  unfold stopOn
  split
  · exact (refuse_only c s).mono fun _ h => .inl h
  · exact (stopChannel_only c s).mono fun _ h => .inr h

theorem secondStep_only : onlyFlags (· = .ofChannel .state c) s.tx (secondStep c s).tx := by
  unfold secondStep
  dsimp only
  split
  · exact onlyFlags.refl _ _
  · split
    · exact (raiseState_only c _).after rfl
    · exact onlyFlags.refl _ _

end

/-! ## The node, its peers and the line -/

theorem reportAllUsed_only (s : State) :
    onlyFlags (fun r => ∃ c, s.used c = true ∧ r = .ofChannel .state c) s.tx (reportAllUsed s).tx := by
  have all := foldl_channels_keeps
    (P := fun u => u.loader = s.loader ∧ onlyFlags (fun r => ∃ c, s.used c = true ∧ r = .ofChannel .state c) s.tx u.tx)
    (fun t c => if t.used c then raiseState c t else t) ?_ s ⟨rfl, onlyFlags.refl _ _⟩
  · exact all.2
  · rintro u c ⟨loader, only⟩
    split
    next used =>
      rw [State.used, State.kind, loader] at used
      exact ⟨by simp [loader], only.trans ((raiseState_only c u).mono fun r hr => ⟨c, used, hr⟩)⟩
    next => exact ⟨loader, only⟩

theorem enterRun_only (s : State) :
    onlyFlags (fun r => r = .presence ∨ ∃ c, s.used c = true ∧ r = .ofChannel .state c) s.tx (enterRun s).tx := by
  unfold enterRun
  have raised := fun u : State => (raiseFlag_only .presence u).mono (changed' := fun r => r = .presence ∨
    ∃ c, s.used c = true ∧ r = .ofChannel .state c) fun _ h => .inl h
  refine ((raised _).trans ((reportAllUsed_only _).mono fun r hr => ?_)).after rfl
  obtain ⟨c, used, hr⟩ := hr
  exact .inr ⟨c, by simpa [State.used, State.kind] using used, hr⟩

theorem presenceDueStep_only (s : State) : onlyFlags (· = .presence) s.tx (presenceDueStep s).tx := raiseFlag_only _ _

theorem takeQuery_only (f : RxFrame) (s : State) : onlyFlags (· = .counts) s.tx (takeQuery f s).tx := by
  unfold takeQuery
  split
  · exact raiseFlag_only _ s
  · exact onlyFlags.refl _ _

theorem restateClaim_only (st : Fin 8) (body : List Byte) (s : State) (c : Channel) :
    onlyFlags (claimFlags c) s.tx (restateClaim st body s c).tx := by
  unfold restateClaim
  dsimp only
  split
  · exact (standingRelease_only c _).after (by simp)
  · exact onlyFlags.of_eq (by simp)

theorem restateSpark_only (st : Fin 8) (body : List Byte) (s : State) (c : Channel) :
    onlyFlags (sparkFlags c) s.tx (restateSpark st body s c).tx := by
  have appended : onlyFlags (sparkFlags c) s.tx (appendKey ⟨st, c⟩ s).tx := onlyFlags.of_eq (by simp)
  unfold restateSpark
  dsimp only
  split
  · split
    · exact onlyFlags.refl _ _
    · split
      · exact appended.trans ((standingFree_only c _).mono fun _ h => .inr h)
      · exact appended
  · exact dropKey_only s ⟨st, c⟩

theorem takeSpark_only (f : RxFrame) (s : State) : onlyFlags anySparkFlags s.tx (takeSpark f s).tx := by
  unfold takeSpark
  split
  · exact onlyFlags.refl _ _
  · split
    · exact ((standingFree_only _ _).after (by simp)).mono fun _ h => ⟨_, .inr h⟩
    · exact onlyFlags.of_eq (by simp)

end Sys2Proof.Machine
end

section
/-!
PROOF. The block laws (O33): the order of the claim table, the spark queue, the counters and the FIFO by the laws of the four blocks; the
wishes of a channel by the flags that each piece of a step may change.
-/

namespace Sys2Proof.Machine

/-! ## The order of the claim table (R46, R47) -/

theorem entryBefore_iff (a b : ClaimEntry) : entryBefore a b = true ↔
    a.cls < b.cls ∨ (a.cls = b.cls ∧ (a.key.station.val < b.key.station.val ∨
      (a.key.station.val = b.key.station.val ∧ a.key.channel.val < b.key.channel.val))) := by
  simp [entryBefore, Fin.ext_iff]

theorem entryBefore_trans {a b c : ClaimEntry} (first : entryBefore a b = true) (second : entryBefore b c = true) :
    entryBefore a c = true := by
  rw [entryBefore_iff] at *
  omega

theorem entryBefore_irrefl (a : ClaimEntry) : entryBefore a a ≠ true := by
  rw [Ne, entryBefore_iff]
  omega

/-- Of two entries for different keys one comes before the other. -/
theorem entryBefore_total {a b : ClaimEntry} (keys : a.key ≠ b.key) (other : entryBefore a b ≠ true) :
    entryBefore b a = true := by
  have differ : a.key.station.val ≠ b.key.station.val ∨ a.key.channel.val ≠ b.key.channel.val := by
    by_contra same
    push Not at same
    refine keys ?_
    obtain ⟨⟨a1, a2⟩, _⟩ := a
    obtain ⟨⟨b1, b2⟩, _⟩ := b
    exact congrArg₂ Key.mk (Fin.ext same.1) (Fin.ext same.2)
  rw [Ne, entryBefore_iff] at other
  rw [entryBefore_iff]
  omega

/-- A table in order, with one entry for a key (R46, R47). -/
def inOrder (table : List ClaimEntry) : Prop :=
  table.Pairwise (fun a b => entryBefore a b = true) ∧ (table.map ClaimEntry.key).Nodup

theorem insertEntry_perm (e : ClaimEntry) (l : List ClaimEntry) : (insertEntry e l).Perm (e :: l) := by
  induction l with
  | nil => exact .refl _
  | cons x xs ih =>
    unfold insertEntry
    split
    · exact .refl _
    · exact (ih.cons x).trans (.swap e x xs)

theorem mem_insertEntry {e x : ClaimEntry} {l : List ClaimEntry} : x ∈ insertEntry e l ↔ x = e ∨ x ∈ l :=
  (insertEntry_perm e l).mem_iff.trans List.mem_cons

theorem insertEntry_inOrder {e : ClaimEntry} {l : List ClaimEntry} (new : e.key ∉ l.map ClaimEntry.key) (h : inOrder l) :
    inOrder (insertEntry e l) := by
  refine ⟨?_, ((insertEntry_perm e l).map _).nodup_iff.mpr (List.nodup_cons.mpr ⟨new, h.2⟩)⟩
  have ordered := h.1
  clear h
  induction l with
  | nil => simp [insertEntry]
  | cons x xs ih =>
    simp only [List.map_cons, List.mem_cons, not_or] at new
    obtain ⟨before, rest⟩ := List.pairwise_cons.mp ordered
    unfold insertEntry
    split
    next first =>
      refine List.pairwise_cons.mpr ⟨fun y hy => ?_, ordered⟩
      rcases List.mem_cons.mp hy with rfl | hy
      · exact first
      · exact entryBefore_trans first (before y hy)
    next later =>
      refine List.pairwise_cons.mpr ⟨fun y hy => ?_, ih new.2 rest⟩
      rcases mem_insertEntry.mp hy with rfl | hy
      · exact entryBefore_total new.1 later
      · exact before y hy

theorem inOrder_filter (p : ClaimEntry → Bool) {l : List ClaimEntry} (h : inOrder l) : inOrder (l.filter p) :=
  ⟨h.1.filter p, h.2.sublist (List.filter_sublist.map _)⟩

theorem putEntry_inOrder (k : Key) (x : ClaimContent) {l : List ClaimEntry} (h : inOrder l) : inOrder (putEntry k x l) := by
  refine insertEntry_inOrder ?_ (inOrder_filter _ h)
  simp [removeEntry]

theorem flagEntries_inOrder (map : List Placement) {l : List ClaimEntry} (h : inOrder l) : inOrder (flagEntries map l) := by
  constructor
  · exact List.pairwise_map.mpr h.1
  · simpa [flagEntries, Function.comp_def] using h.2

/-- Tables in order with the same entries are the same table. -/
theorem eq_of_inOrder {l₁ l₂ : List ClaimEntry} (first : l₁.Pairwise (fun a b => entryBefore a b = true))
    (second : l₂.Pairwise (fun a b => entryBefore a b = true)) (same : ∀ e, e ∈ l₁ ↔ e ∈ l₂) : l₁ = l₂ := by
  have distinct : ∀ {l : List ClaimEntry}, l.Pairwise (fun a b => entryBefore a b = true) → l.Nodup := fun h =>
    h.imp fun {a b} before => by
      rintro rfl
      exact entryBefore_irrefl a before
  refine ((List.perm_ext_iff_of_nodup (distinct first) (distinct second)).mpr same).eq_of_pairwise (le := fun a b => entryBefore a b = true)
    (fun a b _ _ ab ba => absurd (entryBefore_trans ab ba) (entryBefore_irrefl a)) first second

/-! ## The four blocks -/

/-- A key is one of eight stations and one of four channels, so no list holds more than 32 without a repetition. -/
theorem length_le_of_keys_nodup {keys : List Key} (distinct : keys.Nodup) : keys.length ≤ 32 := by
  have pairs : (keys.map fun k => (k.station, k.channel)).Nodup := by
    refine distinct.map fun k l same => ?_
    obtain ⟨station, channel⟩ := Prod.mk.inj same
    cases k
    cases l
    exact congrArg₂ Key.mk station channel
  simpa using pairs.length_le_card

/-- R164: every counter lies in 0..255. -/
def Counters.bounded (x : Counters) : Prop :=
  x.checkErrors ≤ 255 ∧ x.collisions ≤ 255 ∧ x.fifoOverflows ≤ 255 ∧ x.phaseAdjusts ≤ 255 ∧ x.sheds ≤ 255 ∧
  x.ignitionFails ≤ 255 ∧ x.flameLosses ≤ 255 ∧ x.sparkConflicts ≤ 255

theorem bounded_count {x : Counters} (h : x.bounded) :
    { x with checkErrors := saturate x.checkErrors }.bounded ∧ { x with collisions := saturate x.collisions }.bounded ∧
    { x with fifoOverflows := saturate x.fifoOverflows }.bounded ∧ { x with phaseAdjusts := saturate x.phaseAdjusts }.bounded ∧
    { x with sheds := saturate x.sheds }.bounded ∧ { x with ignitionFails := saturate x.ignitionFails }.bounded ∧
    { x with flameLosses := saturate x.flameLosses }.bounded ∧ { x with sparkConflicts := saturate x.sparkConflicts }.bounded := by
  obtain ⟨h1, h2, h3, h4, h5, h6, h7, h8⟩ := h
  simp only [Counters.bounded, h1, h2, h3, h4, h5, h6, h7, h8, saturate_le, and_self]

theorem bounded_reduced (snap : Counters) {x : Counters} (h : x.bounded) : (reduceCounters snap x).bounded := by
  simp only [Counters.bounded, reduceCounters] at *
  omega

/-- The laws of R46, R96, R138 and R164, each where it is asked for. -/
theorem block_laws (a b c d : Prop) : BlockLaw (fun l => a → inOrder l) (fun q => b → q.Nodup) (fun x => c → x.bounded)
    (fun l => d → l.length ≤ 4) where
  noEntry _ := ⟨.nil, .nil⟩
  put k x _ h ha := putEntry_inOrder k x (h ha)
  removed p _ h ha := inOrder_filter p (h ha)
  flagged map _ h ha := flagEntries_inOrder map (h ha)
  noKey _ := .nil
  joined _ _ absent h hb := List.nodup_append_comm.mp (List.nodup_cons.mpr ⟨absent, h hb⟩)
  left p _ h hb := (h hb).filter p
  zero _ := by simp [Counters.bounded, Counters.reset]
  checkError _ h hc := (bounded_count (h hc)).1
  collision _ h hc := (bounded_count (h hc)).2.1
  fifoOverflow _ h hc := (bounded_count (h hc)).2.2.1
  phaseAdjust _ h hc := (bounded_count (h hc)).2.2.2.1
  shed _ h hc := (bounded_count (h hc)).2.2.2.2.1
  ignitionFail _ h hc := (bounded_count (h hc)).2.2.2.2.2.1
  flameLoss _ h hc := (bounded_count (h hc)).2.2.2.2.2.2.1
  sparkConflict _ h hc := (bounded_count (h hc)).2.2.2.2.2.2.2
  reduced snap _ h hc := bounded_reduced snap (h hc)
  noFrame _ := by simp
  queued _ _ room h hd := by simpa using room
  delivered _ _ h hd := (Nat.le_succ _).trans (h hd)

theorem step_tableOrdered {s t : State} (h : s.tableOrdered) (e : step s = .next t) : t.tableOrdered :=
  (step_blocks (block_laws True False False False) ⟨fun _ => h, False.elim, False.elim, False.elim⟩ e).table trivial

theorem step_queueUnique {s t : State} (h : s.queueUnique) (e : step s = .next t) : t.queueUnique :=
  (step_blocks (block_laws False True False False) ⟨False.elim, fun _ => h, False.elim, False.elim⟩ e).queue trivial

theorem step_countersBounded {s t : State} (h : s.countersBounded) (e : step s = .next t) : t.countersBounded :=
  (step_blocks (block_laws False False True False) ⟨False.elim, False.elim, fun _ => h, False.elim⟩ e).counters trivial

theorem step_fifoBounded {s t : State} (h : s.fifoBounded) (e : step s = .next t) : t.fifoBounded :=
  (step_blocks (block_laws False False False True) ⟨False.elim, False.elim, False.elim, fun _ => h⟩ e).fifo trivial

/-! ## At most one wish of a channel (R83) -/

/-- A change of flags that sets no claim-pending and no release-pending keeps the law. -/
theorem State.wishesFit.of_set {s t : State} (h : s.wishesFit)
    (set : ∀ c r, claimFlags c r → t.asked r = true → s.asked r = true) : t.wishesFit := by
  intro c
  by_contra both
  simp only [Bool.not_eq_false, Bool.and_eq_true] at both
  have old := h c
  rw [set c _ (.inl rfl) both.1, set c _ (.inr rfl) both.2] at old
  cases old

theorem State.wishesFit.of_only {s t : State} {changed : Request → Prop} (h : s.wishesFit) (only : onlyFlags changed s.tx t.tx)
    (other : ∀ c, ¬ changed (.ofChannel .claim c) ∧ ¬ changed (.ofChannel .release c)) : t.wishesFit := by
  refine h.of_set fun c r wish set => ?_
  rcases wish with rfl | rfl
  · rwa [State.asked, only.flag (other c).1] at set
  · rwa [State.asked, only.flag (other c).2] at set

theorem State.wishesFit.congr {s t : State} (h : s.wishesFit) (tx : t.tx = s.tx) : t.wishesFit :=
  h.of_only (changed := fun _ => False) (onlyFlags.of_eq tx) (by simp)

theorem raiseClaim_wishes (c : Channel) {s : State} (h : s.wishesFit) : (raiseClaim c s).wishesFit := by
  intro d
  have old := h d
  simp only [State.asked, flagOf_raiseClaim] at old ⊢
  by_cases hd : d = c <;> simp_all

theorem raiseRelease_wishes (c : Channel) {s : State} (h : s.wishesFit) : (raiseRelease c s).wishesFit := by
  intro d
  have old := h d
  simp only [State.asked, flagOf_raiseRelease] at old ⊢
  by_cases hd : d = c <;> simp_all

theorem standingRelease_wishes (c : Channel) {s : State} (h : s.wishesFit) : (standingRelease c s).wishesFit := by
  unfold standingRelease
  split
  · exact raiseRelease_wishes c h
  · exact h

theorem leaveShare_wishes (c : Channel) (heat : ElementHeat) {s : State} (h : s.wishesFit) : (leaveShare c heat s).wishesFit :=
  standingRelease_wishes c (raiseRelease_wishes c (h.congr rfl))

theorem takeElementLevel_wishes (c : Channel) (level : Nat) {s : State} (h : s.wishesFit) :
    (takeElementLevel c level s).wishesFit := by
  have handed : ∀ e, (s.setElement c e).wishesFit := fun e => h.congr rfl
  unfold takeElementLevel
  dsimp only
  split
  · split
    case h_1 => exact handed _
    case h_2 => exact standingRelease_wishes c (h.congr rfl)
    all_goals exact leaveShare_wishes c _ (handed _)
  · split
    case h_1 =>
      unfold startWanting
      split
      · exact standingRelease_wishes c (h.congr rfl)
      · exact raiseClaim_wishes c (h.congr rfl)
    case h_2 => exact handed _
    all_goals
      split
      · exact handed _
      · exact raiseClaim_wishes c (handed _)

theorem sampleDemand_wishes (c : Channel) (active : Bool) {s : State} (h : s.wishesFit) :
    (sampleDemand c active s).wishesFit := by
  have sampled : ∀ e, (s.setElement c e).wishesFit := fun e => h.congr rfl
  unfold sampleDemand
  dsimp only
  split
  case h_1 => exact raiseClaim_wishes c (h.congr rfl)
  case h_2 | h_3 | h_4 => exact leaveShare_wishes c _ (sampled _)
  all_goals exact sampled _

theorem restateClaim_wishes (st : Fin 8) (body : List Byte) (c : Channel) {s : State} (h : s.wishesFit) :
    (restateClaim st body s c).wishesFit := by
  unfold restateClaim
  dsimp only
  split
  · exact standingRelease_wishes c (h.congr rfl)
  · exact h.congr rfl

theorem noteReports_wishes (b : State) {s : State} (h : s.wishesFit) : (noteReports b s).wishesFit :=
  h.of_only (noteReports_only b s) (by simp)

theorem takeOne_wishes (x : Taking) (isTaking : x.isHandover = false) {s : State} (h : s.wishesFit) : (takeOne x s).wishesFit := by
  cases x with
  | sample c =>
    unfold takeOne takeSample
    dsimp only
    split
    · exact h
    · exact sampleDemand_wishes c _ (h.congr (by simp))
  | select =>
    refine h.of_set fun c r _ set => ?_
    simp only [State.asked, takeOne, takeSelect] at set
    split at set
    · simpa [State.asked, flagOf_congr r (tx := s.tx) rfl rfl rfl (funext fun k => by cases k <;> rfl)] using set
    · exact set
  | handover c => simp [Taking.isHandover] at isTaking
  | listen | silence | dwell | swap | result | relay | flame | count | presence | plan => exact h.congr (by simp [takeOne])

theorem stopChannel_wishes (c : Channel) (s : State) (h : s.wishesFit) : (stopChannel c s).wishesFit :=
  h.of_only (stopChannel_only c s) (by simp)

theorem asked_settleFlag {r q : Request} {mark : BitVec 8} {tx : Transmitter}
    (set : (flagOf (settleFlag r mark tx) q).isSet = true) : (flagOf tx q).isSet = true := by
  have pointer : ∀ (x : Transmitter) (k : ChannelRequest) (c : Channel),
      flagOf (setChannelFlags x k { channelFlags x k with pointer := c }) q = flagOf x q := by
    intro x k c
    rcases q with _ | _ | _ | ⟨l, d⟩
    case ofChannel => cases k <;> cases l <;> rfl
    all_goals cases k <;> rfl
  have lowers : (flagOf (if (flagOf tx r).mark = mark then setFlagOf tx r (lowered (flagOf tx r)) else tx) q).isSet = true →
      (flagOf tx q).isSet = true := by
    split
    · rw [flagOf_setFlagOf]
      split
      · simp
      · exact id
    · exact id
  cases r with
  | ofChannel k c => exact lowers (by simpa only [settleFlag, pointer] using set)
  | haltAll | presence | counts => exact lowers set

@[simp] theorem enterConfigFault_flagOf (s : State) (r : Request) : flagOf (enterConfigFault s).tx r = flagOf s.tx r :=
  flagOf_line s.tx none none s.tx.attempted r

theorem enterConfigFault_wishes {s : State} (h : s.wishesFit) : (enterConfigFault s).wishesFit :=
  h.of_set fun c r _ set => by rwa [State.asked, enterConfigFault_flagOf] at set

theorem wishes_kept : StepKeeps State.wishesFit where
  bookkeeping _ _ h := h
  pins _ _ h := h
  coldReset _ _ _ := fun c => by fin_cases c <;> rfl
  taking x s isTaking h := noteReports_wishes _ (takeOne_wishes x isTaking h)
  openEvent t s _ h := h.of_set fun c r _ set => by simpa [State.asked] using set
  locking _ h := h
  losing _ h := h
  generator _ _ _ _ h _ _ := h
  stamp _ _ h := h
  reference _ _ h := h
  running _ _ _ h := h
  judging _ _ _ h := h
  second c s h := noteReports_wishes _ (h.of_only (secondStep_only c s) (by simp))
  expiry c s h := noteReports_wishes _ (h.congr (by simp))
  flamePresent c s h := noteReports_wishes _ (h.of_only (flamePresentStep_only c s) (by simp [sparkFlags]))
  flameAbsent c s h := noteReports_wishes _ (h.of_only (flameAbsentStep_only c s) (by simp))
  ignitionEnd c s h := noteReports_wishes _ (h.of_only (ignitionEndStep_only c s) (by simp))
  purgeEnd c s h := noteReports_wishes _ (h.of_only (purgeEndStep_only c s) (by simp))
  relightEnd c s h := noteReports_wishes _ (h.of_only (relightEndStep_only c s) (by simp))
  holdLimit s h := noteReports_wishes _ (h.of_only (holdLimitStep_only s) (by simp [anySparkFlags, sparkFlags]))
  departure a s h := h.congr (by simp)
  enterRun s h := h.of_only (enterRun_only s) (by simp)
  presenceDue s h := h.of_only (presenceDueStep_only s) (by simp)
  enterHold s h := h.of_set fun c r _ set => by simpa [State.asked, enterHold_tx, flagOf_line s.tx none none s.tx.attempted r] using set
  optionRead m block s h _ := by
    unfold endOptionRead
    split
    · exact h.congr rfl
    · exact enterConfigFault_wishes (h.congr rfl)
  halt s h := haltEffect_keeps (fun hu => noteReports_wishes _ hu) (fun u hu => hu.of_only (raiseFlag_only .haltAll u) (by simp))
    (stopAll_keeps stopChannel_wishes s h) h
  plan s h := h.congr (by simp)
  startPoint b s _ h := noteReports_wishes _ (h.of_only (sparkPoint_only b s) (by simp [anySparkFlags, sparkFlags]))
  handover _ _ _ h := h
  elementLevel c l s _ h := noteReports_wishes _ (takeElementLevel_wishes c l h)
  elementLevelInEvent c l s _ h := noteReports_wishes _ (takeElementLevel_wishes c l (h.congr (by simp)))
  gasLevel c l s _ h := noteReports_wishes _ (h.of_only (takeGasLevel_only c s l) (by simp [sparkFlags]))
  deferEnd q s h := by
    refine h.of_set fun c r _ set => ?_
    simp only [State.asked] at set ⊢
    unfold deferEnd at set
    split at set
    · split at set
      · simpa [flagOf_line s.tx s.tx.selection (some 0) true r] using set
      · simpa [flagOf_line s.tx none s.tx.sent s.tx.attempted r] using set
    · exact set
  char ch s h := by
    refine takeChar_keeps ?receiver ?clash ?queue ?checkError ?success ?sent ?abort ch s h
    case receiver => exact fun _ _ h => h
    case clash => exact fun _ h => enterConfigFault_wishes h
    case queue => exact fun _ _ h => h.congr (by simp)
    case checkError => exact fun _ h => h
    case success =>
      exact fun x s h => h.of_set fun c r _ set => asked_settleFlag (r := x.request) (mark := x.mark) (by
        simpa [State.asked, transmitSuccess, flagOf_line (settleFlag x.request x.mark s.tx) none none _ r] using set)
    case sent =>
      exact fun n s h => h.of_set fun c r _ set => by
        simpa [State.asked, flagOf_line s.tx s.tx.selection (some n) s.tx.attempted r] using set
    case abort =>
      exact fun s h => h.of_set fun c r _ set => by
        simpa [State.asked, abortFrame, flagOf_line s.tx none none true r] using set
  line _ _ h := h.congr (by simp)
  gap _ h := h.congr (by simp)
  quiet _ h := h.congr (by simp)
  removed _ _ _ _ h := h
  presence f s active h := by
    refine noteReports_wishes _ (takePresence_keeps ?peers ?budget ?adopt ?claim ?spark f s active h)
    case peers => exact fun _ _ h => h
    case budget => exact fun _ _ h => h
    case adopt => exact fun _ _ _ _ h => h.congr (by simp)
    case claim => exact fun st body s c h => restateClaim_wishes st body c h
    case spark => exact fun st body s c h => h.of_only (restateSpark_only st body s c) (by simp [sparkFlags])
  claim f s _ h := by
    unfold takeClaim
    dsimp only
    split
    · exact h
    · split
      · exact h
      · split
        · exact standingRelease_wishes _ (h.congr rfl)
        · exact h.congr rfl
  release _ _ _ h := h.congr (by simp)
  spark f s _ h := h.of_only (takeSpark_only f s) (by simp [anySparkFlags, sparkFlags])
  sparkFree _ _ _ h := h.congr (by simp)
  program f s _ h := by
    unfold takeProgramNotice
    split
    · split
      · exact h
      · exact noteReports_wishes _ (h.of_only (programOn_only _ s _) (by simp))
    · exact h
  masked g f s hg _ h := by
    unfold takeMasked
    split
    · refine noteReports_wishes _ (onNamed_keeps f.body g (fun c u hu => ?_) s h)
      rcases hg with rfl | rfl | rfl | rfl
      · exact hu.of_only (startOn_only c u) (by simp)
      · exact hu.of_only (holdOn_only c u) (by simp)
      · exact hu.of_only (resumeOn_only c u) (by simp)
      · exact hu.of_only (stopOn_only c u) (by simp)
    · exact h
  haltAll s _ h := noteReports_wishes _ (stopAll_keeps stopChannel_wishes s h)
  query f s _ h := h.of_only (takeQuery_only f s) (by simp)
  restart m f s _ h := by
    unfold takeRestart
    split
    · exact fun c => by fin_cases c <;> rfl
    · exact h

theorem step_wishesFit {s t : State} (h : s.wishesFit) (e : step s = .next t) : t.wishesFit :=
  wishes_kept.step (fun _ _ h => h) s t h e

/-- Settles O33: the operations on each block keep its law, and a step consists of such operations. -/
theorem everyStepKeepsTheBlockLaws : Obligations.EveryStepKeepsTheBlockLaws := by
  refine ⟨fun _ _ => step_tableOrdered, fun _ _ => step_queueUnique, fun _ _ => step_countersBounded, fun _ _ => step_fifoBounded,
    fun _ _ => step_wishesFit, fun _ _ => step_recordsFit, ?table, fun _ h => length_le_of_keys_nodup h, fun _ => rfl⟩
  case table =>
    rintro s ⟨-, distinct⟩
    simpa using length_le_of_keys_nodup distinct

/-- Settles O32: the order compares class, station and channel, and a list in a strict order is fixed by its members. -/
theorem claimOrderIsAFunctionOfContent : Obligations.ClaimOrderIsAFunctionOfContent :=
  ⟨entryBefore_iff, fun _ _ => eq_of_inOrder⟩

end Sys2Proof.Machine
end

section
/-!
PROOF. Resets and options (chapters 10 and 11): the reset values, the cold and the warm reset, the option read and its check.
-/

namespace Sys2Proof.Machine

/-! ## How a command acts on a node that is ready -/

/-- A delivery takes the frame at the head of the FIFO (R139). -/
theorem exec_delivery {c : Instr} {k : NoticeKind} {g : RxFrame → State → State} (h : arrival c = some (deliver k g))
    {f : RxFrame} {rest : List RxFrame} {s : State} (delivers : s.delivers k f rest) :
    exec c s = .next (g f (s.popped rest)) := by
  obtain ⟨ready, active, running, fifo, kind⟩ := delivers
  rw [exec_arrival_of_ready h ready, deliver_head k g s f rest active running fifo kind]
  rfl

theorem targetsNode_iff (f : RxFrame) (s : State) : targetsNode f s = true ↔ targetOf f.body = s.loader.options.address.val := by
  simp [targetsNode]

/-! ## Resets (R172, R173) -/

theorem forall_channel (P : Channel → Prop) : (∀ c, P c) ↔ P 0 ∧ P 1 ∧ P 2 ∧ P 3 :=
  ⟨fun h => ⟨h 0, h 1, h 2, h 3⟩, fun ⟨h0, h1, h2, h3⟩ c => by fin_cases c <;> assumption⟩

/-- Settles O5: a cold reset is taken where the supply is above the level it needs. -/
theorem coldResetClearsEverything : Obligations.ColdResetClearsEverything := by
  have level : ∀ s : State, resetSupply s = (if s.loader.held then 2600 + 200 * s.loader.supplyCode else 2600) + 100 := by
    intro s
    cases held : s.loader.held <;> simp [resetSupply, supplyLevel, recoveryMargin, held]
  intro v h s
  rw [← level]
  exact ⟨fun above => exec_coldReset_of_lt v h s above, fun low => exec_coldReset_of_le v h s low⟩

theorem reset_records (a : Station) : State.reset.peers.records[a] = PeerRecord.reset :=
  Vector.getElem_replicate a.isLt

/-- Settles O6: the reset values, block by block. -/
theorem resetGivesEveryBlockItsValue : Obligations.ResetGivesEveryBlockItsValue := by
  refine ⟨?base, ?programs, ?plan, ?elements, ?gas, ?arbiter, reset_records, ?peers, ?line, ?flags, ?pointers, rfl, rfl, ?loader⟩
  case programs | elements | gas => exact (forall_channel _).mpr ⟨rfl, rfl, rfl, rfl⟩
  case arbiter => exact ⟨rfl, rfl, (forall_channel _).mpr ⟨rfl, rfl, rfl, rfl⟩⟩
  case flags =>
    intro r
    rcases r with _ | _ | _ | ⟨k, c⟩
    case ofChannel => cases k <;> fin_cases c <;> rfl
    all_goals rfl
  case pointers => intro k; cases k <;> rfl
  case base | plan | peers | line | loader => simp [State.reset, TimeBase.reset, LoadPlan.reset, PeerTable.reset,
      LineReceiver.reset, Dispatcher.reset, OptionLoader.reset]

/-- Before any notice has come no peer is present, so every derived value is that of the node alone. -/
theorem reset_derivedFit : State.reset.derivedFit := by
  have absent : ∀ a, ¬ State.reset.nodePresent a := fun a h => by
    have present := h.2
    rw [reset_records] at present
    cases present
  refine ⟨?_, ?_, ?_, ?_, ?_⟩
  · simp [absent]
    rfl
  · simp [absent]
    rfl
  · intro a
    simp [absent]
    exact fun h => nomatch h
  · intro h
    cases h
  · exact fun _ => ⟨Nat.zero_le _, fun a b h => absurd h (absent a), .inl rfl⟩

/-- Settles O7: each law holds of the reset values. -/
theorem resetStateMeetsTheLaws : Obligations.ResetStateMeetsTheLaws := by
  have safe : State.reset.outputsSafe := by
    refine ⟨fun c on => ?_, fun c on => ?_, fun c on => ?_⟩ <;> fin_cases c <;> cases on
  have countdowns : State.reset.countdownsFit := fun c => by fin_cases c <;> rfl
  have records : State.reset.recordsFit := State.calm.recordsFit_of_none (calm_of_reset rfl rfl rfl) rfl
  have rate : State.reset.rateFits := timeBaseLaws_reset.1
  have generator : State.reset.generatorFits := timeBaseLaws_reset.2.1
  have phase : State.reset.phaseFits := timeBaseLaws_reset.2.2
  have wishes : State.reset.wishesFit := fun c => by fin_cases c <;> rfl
  have counters : State.reset.countersBounded := by simp [State.countersBounded, State.reset, Counters.reset]
  exact ⟨⟨counters, Nat.zero_le _, ⟨.nil, .nil⟩, .nil, safe, countdowns, rate, generator, phase, fun _ => rfl, wishes, records⟩,
    ⟨rfl, rfl, rfl⟩, reset_derivedFit⟩

/-- Settles O8: a RESTART that targets the node is a warm reset. -/
theorem restartMakesAWarmReset : Obligations.RestartMakesAWarmReset := by
  intro t f rest s delivers
  have taken : exec (.restart t) s = .next (takeRestart t f (s.popped rest)) := exec_delivery rfl delivers
  have target := targetsNode_iff f (s.popped rest)
  rw [taken, takeRestart]
  refine ⟨fun other => ?_, fun own => ?_⟩
  · rw [if_neg fun h => other (target.mp h)]
  · rw [if_pos (target.mpr own)]
    rfl

/-! ## The option read (R168, R169) -/

theorem exec_optionRead {m : Nat} {block : List Byte} {s : State} (ready : s.ready) :
    exec (.optionReadComplete m block) s = .next (takeOptionRead m block s) :=
  exec_arrival_of_ready rfl ready

theorem endOptionRead_of_passes {m : Nat} {block : List Byte} (s : State) (passes : blockPasses block = true) :
    endOptionRead m block s = enterListen m { s with
      plan := { s.plan with budget := (readOptions block).budget }
      loader := { s.loader with options := readOptions block, supplyCode := (readOptions block).supplyCode } } :=
  if_pos passes

theorem endOptionRead_of_fails {m : Nat} {block : List Byte} (s : State) (fails : blockPasses block = false) :
    endOptionRead m block s = enterConfigFault { s with base := { s.base with now := m } } :=
  if_neg (Bool.eq_false_iff.mp fails)

/-- The generator that LISTEN starts (R10, R11). -/
theorem enterListen_freeRun (m : Nat) (s : State) :
    (s.locked = true → (enterListen m s).base.freeRun = .stopped) ∧
    (s.base.lock = .seek → (enterListen m s).base.freeRun = .running 60000 (m + 60000)) ∧
    (s.base.lock = .lost → s.base.band = some .f50 → (enterListen m s).base.freeRun = .running 60000 (m + 60000)) ∧
    (s.base.lock = .lost → s.base.band = some .f60 → (enterListen m s).base.freeRun = .running 50000 (m + 50000)) := by
  refine ⟨fun locked => ?_, fun lock => ?_, fun lock band => ?_, fun lock band => ?_⟩
  · simp [enterListen, locked]
  · simp [enterListen, State.locked, freePeriod, lock, nominalPeriod, Config.unitsPerMs]
  · simp [enterListen, State.locked, freePeriod, lock, band, nominalPeriod, Config.unitsPerMs]
  · simp [enterListen, State.locked, freePeriod, lock, band, nominalPeriod, Config.unitsPerMs]

/-- CONFIG-FAULT (R175): what is turned off and given up, block by block. -/
theorem enterConfigFault_eq (s : State) : enterConfigFault s = { s with
    base := { s.base with freeRun := .stopped }
    elements := (enterConfigFault s).elements
    gas := (enterConfigFault s).gas
    plan := { s.plan with planning := none, computed := s.plan.computed && s.plan.planning.isNone }
    receiver := { s.receiver with state := .hunt, taken := [] }
    tx := { s.tx with selection := none, sent := none }
    loader := { s.loader with node := .configFault, reading := false } } := by
  have plan : (enterConfigFault s).plan = _ := abandonPlan_plan (cutFrame (outputsOff s))
  rw [State.eq_iff]
  exact ⟨rfl, rfl, rfl, rfl, rfl, plan, rfl, rfl, rfl, rfl, rfl, rfl, rfl, rfl, rfl, rfl⟩

theorem enterConfigFault_elements (c : Channel) (s : State) :
    (enterConfigFault s).elements[c] = { s.elements[c] with relay := false } :=
  outputsOff_elements c s

theorem enterConfigFault_gas (c : Channel) (s : State) :
    (enterConfigFault s).gas[c] = { s.gas[c] with valve := false, spark := false } :=
  outputsOff_gas c s

/-- Settles O9: the block that passes takes effect on entering LISTEN, the one that fails leads to CONFIG-FAULT. -/
theorem optionReadEndsInListenOrConfigFault : Obligations.OptionReadEndsInListenOrConfigFault := by
  intro m block s ready
  rw [exec_optionRead ready, takeOptionRead]
  refine ⟨fun noRead => by rw [if_neg noRead], fun startUp reading passes => ?_, fun startUp reading fails => ?_⟩
  · rw [if_pos ⟨startUp, reading⟩, endOptionRead_of_passes s passes]
    refine ⟨_, rfl, ?_⟩
    generalize loaded : ({ s with
      plan := { s.plan with budget := (readOptions block).budget }
      loader := { s.loader with options := readOptions block, supplyCode := (readOptions block).supplyCode } } : State) = u
    have generator := enterListen_freeRun m u
    subst loaded
    exact ⟨rfl, rfl, rfl, rfl, rfl, generator⟩
  · rw [if_pos ⟨startUp, reading⟩, endOptionRead_of_fails s fails, enterConfigFault_eq]
    exact ⟨_, rfl, rfl, rfl, rfl, fun c => enterConfigFault_elements c _, fun c => enterConfigFault_gas c _, rfl, rfl, rfl⟩

/-- The tests on one channel's bytes (R169). -/
theorem channelPasses_iff (block : List Byte) (budget c : Nat) : channelPasses block budget c = true ↔
    (charAt block (8 + c)).toNat % 4 ≠ 3 ∧ ((charAt block (8 + c)).toNat % 4 = 1 →
      1 ≤ (charAt block (12 + c)).toNat ∧ (charAt block (12 + c)).toNat ≤ 250 ∧ (charAt block (12 + c)).toNat ≤ budget) := by
  have code : (charAt block (8 + c)).toNat % 4 < 4 := Nat.mod_lt _ (by decide)
  have current : (readChannelOptions block c).current = (charAt block (12 + c)).toNat := rfl
  have kind : (readChannelOptions block c).kind = (channelKindOfCode ((charAt block (8 + c)).toNat % 4)).getD .unused := rfl
  simp only [channelPasses, within, kind, Bool.and_eq_true, Bool.or_eq_true, decide_eq_true_eq, and_assoc, current]
  interval_cases (charAt block (8 + c)).toNat % 4 <;> simp [channelKindOfCode]

/-- The kind of a channel by its code (section 11.2). -/
theorem readChannelOptions_kind (block : List Byte) (c : Nat) :
    ((charAt block (8 + c)).toNat % 4 = 0 → (readChannelOptions block c).kind = .unused) ∧
    ((charAt block (8 + c)).toNat % 4 = 1 → (readChannelOptions block c).kind = .element) ∧
    ((charAt block (8 + c)).toNat % 4 = 2 → (readChannelOptions block c).kind = .gas) := by
  simp only [readChannelOptions]
  refine ⟨fun code => ?_, fun code => ?_, fun code => ?_⟩ <;> rw [code] <;> rfl

theorem readOptions_channel (block : List Byte) (c : Channel) : (readOptions block).channels[c] = readChannelOptions block c := by
  fin_cases c <;> rfl

/-- Settles O10: the check is the conjunction of the listed tests, and the fields are read where section 11.2 puts them. -/
theorem optionCheckMakesTheListedTests : Obligations.OptionCheckMakesTheListedTests := by
  refine ⟨fun s => ?burst, fun block => ?block⟩
  case burst => refine ⟨fun code => ?_, fun code => ?_, fun code => ?_⟩ <;> rw [State.burst, code] <;> rfl
  intro b
  refine ⟨fun short => ?length, fun long => ?tests, ?fields⟩
  case length => simp [blockPasses, short]
  case tests =>
    have channels : (∀ c < 4, b (8 + c) % 4 ≠ 3 ∧
        (b (8 + c) % 4 = 1 → 1 ≤ b (12 + c) ∧ b (12 + c) ≤ 250 ∧ b (12 + c) ≤ b 2)) ↔
        ∀ c < 4, channelPasses block (b 2) c = true :=
      forall₂_congr fun c _ => (channelPasses_iff block (b 2) c).symm
    have four : (∀ c < 4, channelPasses block (b 2) c = true) ↔ channelPasses block (b 2) 0 = true ∧
        channelPasses block (b 2) 1 = true ∧ channelPasses block (b 2) 2 = true ∧ channelPasses block (b 2) 3 = true :=
      ⟨fun h => ⟨h 0 (by decide), h 1 (by decide), h 2 (by decide), h 3 (by decide)⟩,
        fun ⟨h0, h1, h2, h3⟩ c hc => by interval_cases c <;> assumption⟩
    rw [channels, four]
    simp only [blockPasses, within, long, Bool.and_eq_true, decide_eq_true_eq, beq_self_eq_true, beq_iff_eq, true_and, and_assoc]
    exact Iff.rfl
  case fields =>
    refine ⟨rfl, rfl, rfl, rfl, rfl, rfl, rfl, rfl, rfl, rfl, fun c => ?_⟩
    rw [readOptions_channel]
    exact ⟨rfl, rfl, rfl, readChannelOptions_kind block c⟩

end Sys2Proof.Machine
end

section
/-!
PROOF. How a half-cycle event is taken (R13): the order of the takings, the opening of the event, the reports of each taking.
-/

namespace Sys2Proof.Machine

/-! ## The order (log 1, log 13) -/

theorem filter_handover_firstOnce (seen l : List Taking) :
    (firstOnce seen l).filter Taking.isHandover = l.filter Taking.isHandover := by
  induction l generalizing seen with
  | nil => rfl
  | cons x xs ih =>
    unfold firstOnce
    split
    next again => simp [ih, again.1]
    next => cases handover : x.isHandover <;> simp [ih, handover]

/-- What is named twice is taken at its first place, and what has been seen not again. -/
theorem mem_firstOnce {x : Taking} (block : x.isHandover = false) (seen l : List Taking) :
    x ∈ firstOnce seen l ↔ x ∈ l ∧ x ∉ seen := by
  induction l generalizing seen with
  | nil => simp [firstOnce]
  | cons y ys ih =>
    unfold firstOnce
    split
    next again =>
      rw [ih, List.mem_cons]
      refine ⟨fun h => ⟨.inr h.1, h.2⟩, fun ⟨named, new⟩ => ⟨named.resolve_left ?_, new⟩⟩
      rintro rfl
      exact new again.2
    next first =>
      simp only [List.mem_cons, ih, not_or]
      by_cases same : x = y
      · subst same
        simpa [block] using first
      · simp [same]

theorem firstOnce_nodup (seen l : List Taking) : ((firstOnce seen l).filter fun x => !x.isHandover).Nodup := by
  induction l generalizing seen with
  | nil => simp [firstOnce]
  | cons y ys ih =>
    unfold firstOnce
    split
    · exact ih seen
    · cases block : y.isHandover
      · simp [block, ih, mem_firstOnce block]
      · simp [block, ih]

/-- A list that names nothing but hand-overs twice, and nothing seen, is kept as it stands. -/
theorem firstOnce_append {seen order rest : List Taking} (distinct : (order.filter fun x => !x.isHandover).Nodup)
    (new : ∀ x ∈ order, x.isHandover = false → x ∉ seen) : order <+: firstOnce seen (order ++ rest) := by
  induction order generalizing seen with
  | nil => exact List.nil_prefix
  | cons y ys ih =>
    have first : ¬ (y.isHandover = false ∧ y ∈ seen) := fun again => new y List.mem_cons_self again.1 again.2
    rw [List.cons_append, firstOnce, if_neg first]
    refine List.cons_prefix_cons.mpr ⟨rfl, ih ?_ fun x hx block => ?_⟩
    · exact distinct.sublist ((List.sublist_cons_self y ys).filter _)
    · simp only [List.mem_cons, not_or]
      refine ⟨?_, new x (List.mem_cons_of_mem y hx) block⟩
      rintro rfl
      simp [block, hx] at distinct

theorem mem_allTakings (x : Taking) : x ∈ allTakings ↔ ∀ c, x ≠ .handover c := by
  cases x with
  | silence a => simp [allTakings, allChannels]; fin_cases a <;> decide
  | result c | sample c | relay c | flame c | count c => fin_cases c <;> decide
  | listen | dwell | swap | presence | plan | select => simp [allTakings]
  | handover c => simp [allTakings, allStations, allChannels]

theorem isHandover_eq_false_iff (x : Taking) : x.isHandover = false ↔ ∀ c, x ≠ .handover c := by
  cases x <;> simp [Taking.isHandover]

theorem allTakings_nodup : allTakings.Nodup := by decide

theorem fullOrder_perm (order : List Taking) : ((fullOrder order).filter fun x => !x.isHandover).Perm allTakings := by
  refine (List.perm_ext_iff_of_nodup (firstOnce_nodup _ _) allTakings_nodup).mpr fun x => ?_
  cases block : x.isHandover
  · simp [block, mem_firstOnce block, mem_allTakings, (isHandover_eq_false_iff x).mp block]
  · simp [mem_allTakings, ← isHandover_eq_false_iff, block]

theorem fullOrder_handovers (order : List Taking) :
    (fullOrder order).filter Taking.isHandover = order.filter Taking.isHandover := by
  have none : allTakings.filter Taking.isHandover = [] := by decide
  rw [fullOrder, filter_handover_firstOnce, List.filter_append, none, List.append_nil]

/-! ## The event's opening (R13, R65, R143) -/

theorem completePlan_of_idle {s : State} (idle : s.plan.planning = none) : completePlan s = s := by
  unfold completePlan
  rw [idle]

theorem completePlan_of_planning {s : State} {table : List ClaimEntry} {budget : Nat}
    (planning : s.plan.planning = some (table, budget)) : completePlan s = { s with
      plan := { s.plan with next := computeMap (burstDigits s) budget table, computed := true, planning := none }
      dispatcher := { s.dispatcher with paused := false } } := by
  unfold completePlan
  rw [planning]
  rfl

theorem openEvent_of_idle (t : Nat) {s : State} (idle : s.plan.planning = none) : openEvent t s = { s with
    base := { s.base with
      phase := (s.base.phase + 1) % s.burst, lastEvent := some t
      eventPhase := (s.base.phase + 1) % s.burst, eventRate := s.base.tickRate }
    tx := { s.tx with selection := if s.tx.sent = none then none else s.tx.selection, attempted := false }
    receiver := { s.receiver with heard := false, busySince := s.receiver.lineBusy }
    event := { EventWork.reset with order := s.event.order, startPoint := true } } := by
  rw [openEvent, completePlan_of_idle idle]
  cases sent : s.tx.sent <;> rfl

theorem halfCycleEvent_of_active (t : Nat) {s : State} (active : s.active = true) :
    halfCycleEvent t s = resumeTaking (fullOrder s.event.order) (openEvent t s) :=
  if_pos active

/-- A computation in flight is completed by the event (log 6). -/
theorem halfCycleEvent_of_planning (t : Nat) {s : State} {table : List ClaimEntry} {budget : Nat} (active : s.active = true)
    (planning : s.plan.planning = some (table, budget)) : halfCycleEvent t s = halfCycleEvent t { s with
      plan := { s.plan with next := computeMap (burstDigits s) budget table, computed := true, planning := none }
      dispatcher := { s.dispatcher with paused := false } } := by
  rw [← completePlan_of_planning planning]
  have once : completePlan (completePlan s) = completePlan s :=
    completePlan_of_idle (by rw [completePlan_of_planning planning])
  rw [halfCycleEvent_of_active t active, halfCycleEvent_of_active t (by simpa [State.active] using active)]
  simp [openEvent, once]

/-! ## What a channel reports (R161) -/

theorem elementHeatCode_inj {x y : ElementHeat} : elementHeatCode x = elementHeatCode y ↔ x = y := by
  cases x <;> cases y <;> decide

theorem gasHeatCode_inj {x y : GasHeat} : gasHeatCode x = gasHeatCode y ↔ x = y := by
  cases x <;> cases y <;> decide

/-- The heat state of an ELEMENT channel, the heat state and the stray indication of a GAS channel are reported, and of a program all
but the stages, the limits, the counts of time and the refusal. -/
theorem reportedOf_eq_iff {s t : State} (options : t.loader.options = s.loader.options) (c : Channel) :
    reportedOf s c = reportedOf t c ↔
      t.programs[c].state = s.programs[c].state ∧ t.programs[c].index = s.programs[c].index ∧
      t.programs[c].repeatsDone = s.programs[c].repeatsDone ∧ t.programs[c].alert = s.programs[c].alert ∧
      t.programs[c].fault = s.programs[c].fault ∧ (s.kind c = .element → t.elements[c].heat = s.elements[c].heat) ∧
      (s.kind c = .gas → t.gas[c].heat = s.gas[c].heat ∧ t.gas[c].stray = s.gas[c].stray) := by
  have kind : t.kind c = s.kind c := by rw [State.kind, State.kind, options]
  simp only [reportedOf, Reported.mk.injEq, heatCode, strayShown, kind]
  cases s.kind c <;> simp [elementHeatCode_inj, gasHeatCode_inj] <;> grind

theorem setUntaken_eq (xs : List Taking) (s : State) :
    setUntaken xs s = { s with event := { s.event with untaken := xs } } := rfl

/-- Settles O19: the order is the sender's completed by `allTakings`, the reports compare what a channel reports before and after, and the
rest is what `resumeTaking` and `goOn` do by their definitions. -/
theorem everyBlockTakesAnEventOnce : Obligations.EveryBlockTakesAnEventOnce := by
  refine ⟨fun order => ⟨allTakings_nodup, mem_allTakings, fullOrder_perm order, fullOrder_handovers order, ?kept⟩,
    halfCycleEvent_of_inactive, ?opened, fun t s _ _ active planning => halfCycleEvent_of_planning t active planning, ?reports, ?taken, ?ended,
    fun d s due => exec_stepCommand_of_due due, fun s => ⟨fun done => if_pos done, fun due => if_neg due⟩, ?frame⟩
  case kept => exact fun distinct => firstOnce_append distinct (by simp)
  case opened =>
    intro t s active idle
    rw [halfCycleEvent_of_active t active, openEvent_of_idle t idle]
  case reports =>
    intro s t options
    refine ⟨by simp [State.eq_iff], (noteReports_only s t).mono fun r ⟨c, hr, _⟩ => ⟨c, hr⟩, fun c => ?_⟩
    have same := reportedOf_eq_iff options.symm c
    rw [flagOf_noteReports_state]
    refine ⟨fun changed => if_neg fun kept => ?_, fun unchanged => if_pos (same.mpr ?_)⟩
    · obtain ⟨state, index, repeats, alert, fault, element, gas⟩ := same.mp kept
      rcases changed with h | h | h | h | h | ⟨kind, h⟩ | ⟨kind, h⟩
      · exact h state
      · exact h index
      · exact h repeats
      · exact h alert
      · exact h fault
      · exact h (element kind)
      · exact h.elim (· (gas kind).1) (· (gas kind).2)
    · push Not at unchanged
      exact unchanged
  case taken =>
    intro x xs s
    exact ⟨fun done => if_pos done, fun due => if_neg due⟩
  case ended =>
    intro s done
    have locked : (setUntaken [] s).locked = s.locked := rfl
    rw [resumeTaking_nil, endTaking]
    simp only [setUntaken_frame, done, true_and, locked]
    split
    · rfl
    · simp [setUntaken, State.setEvent, done]
  case frame => exact fun xs s => by simp

end Sys2Proof.Machine
end

section
/-!
PROOF. The time base (chapter 1): crossings judged and counted, the locking crossing, the entry into LOST, the free-run events.
-/

namespace Sys2Proof.Machine

/-! ## What comes with an event -/

theorem withInputs_eq (inp : EventInputs) (s : State) : withInputs inp s = { s with
    pins := { s.pins with sense := inp.sense }, receiver := s.lineAt inp.lineBusy
    event := { s.event with order := inp.order } } := by
  have active : ((s.setPins { s.pins with sense := inp.sense }).setEvent { s.event with order := inp.order }).active = s.active :=
    rfl
  unfold withInputs senseLine State.lineAt
  rw [active]
  cases s.active <;> rfl

theorem lineAt_of_inactive {s : State} (idle : s.active = false) (busy : Bool) : s.lineAt busy = s.receiver := by
  simp [State.lineAt, idle]

/-- The levels on their way to a driver that the order does not name stay on their way (log 13). -/
theorem halfCycleEvent_handovers_at (t : Nat) (s : State) (c : Channel) (h : .handover c ∉ s.event.order) :
    (halfCycleEvent t s).handovers[c] = s.handovers[c] := by
  unfold halfCycleEvent
  split
  · rw [resumeTaking_handovers_at _ _ c (mt (handover_mem_fullOrder _ _).mp h)]
    simp
  · rfl

/-- The node with the level changes, the line and the order of a crossing, and a time base `b`. -/
def crossed (inp : EventInputs) (b : TimeBase) (s : State) : State := { s with
  base := b
  pins := { s.pins with zeroCross := !s.pins.zeroCross, sense := inp.sense }
  receiver := s.lineAt inp.lineBusy
  event := { s.event with order := inp.order } }

theorem markCrossing_withInputs (m : Nat) (inp : EventInputs) (s : State) :
    markCrossing m (withInputs inp s) = crossed inp { s.base with now := m } s := by
  rw [withInputs_eq]
  rfl

/-! ## A crossing in SEEK or LOST (R2, R4, R5) -/

theorem exec_crossing {m : Nat} {inp : EventInputs} {s : State} (ready : s.ready) :
    exec (.crossing m inp) s = .next (takeCrossing m (withInputs inp s)) :=
  exec_arrival_of_ready (f := fun u => takeCrossing m (withInputs inp u)) rfl ready

theorem takeCrossing_of_noReference {m : Nat} {inp : EventInputs} {s : State} (none : s.base.reference = none) :
    takeCrossing m (withInputs inp s) = crossed inp { s.base with reference := some m, now := m } s := by
  have noReference : (markCrossing m (withInputs inp s)).base.reference = Option.none := by simpa [markCrossing] using none
  unfold takeCrossing
  dsimp only
  split
  · exact congrArg (State.withReference (some m)) (markCrossing_withInputs m inp s)
  next r reference => exact absurd (noReference.symm.trans reference) (by simp)

/-- The run count takes an interval by its class (R4). -/
theorem countRun_count (cls : Option Band) (b : TimeBase) :
    countRun cls b = { b with runBand := (countRun cls b).runBand, runLength := (countRun cls b).runLength } ∧
    (cls = none → (countRun cls b).runBand = none ∧ (countRun cls b).runLength = 0) ∧
    ∀ x, cls = some x → (countRun cls b).runBand = some x ∧
      (countRun cls b).runLength = if b.runBand = some x then b.runLength + 1 else 1 := by
  cases cls with
  | none => exact ⟨rfl, fun _ => ⟨rfl, rfl⟩, by simp⟩
  | some x =>
    refine ⟨?_, by simp, ?_⟩
    · simp only [countRun]
      split <;> rfl
    · rintro y ⟨rfl⟩
      simp only [countRun]
      split
      next same => exact ⟨same, rfl⟩
      next => exact ⟨rfl, rfl⟩

/-- Settles O12: the first crossing is only a reference, a later one is counted by its class. -/
theorem unlockedCrossingFeedsTheRunCount : Obligations.UnlockedCrossingFeedsTheRunCount := by
  intro m inp s ready
  refine ⟨fun first => ?_, fun r reference unlocked => ?_⟩
  · rw [exec_crossing ready, takeCrossing_of_noReference first]
    rfl
  · rw [exec_crossing_of_unlocked m r inp s ready unlocked reference, markCrossing_withInputs]
    obtain ⟨-, nothingDue, -⟩ := ready
    obtain ⟨counted, bad, good⟩ := countRun_count (classify (m - r)) { s.base with now := m }
    refine ⟨_, rfl, ?_⟩
    unfold seekCrossing
    dsimp only [crossed]
    split
    next locks =>
      refine ⟨rfl, ?_, bad, good, (if_pos locks).symm⟩
      exact congrArg (fun b : TimeBase => { b with reference := some m }) counted
    next waits =>
      refine ⟨rfl, ?_, bad, good, nothingDue.trans (if_neg waits).symm⟩
      exact congrArg (fun b : TimeBase => { b with reference := some m }) counted

/-! ## A crossing while locked (R6, R8) -/

theorem endTaking_of_due {s : State} (due : s.event.due ≠ none) : endTaking s = s :=
  if_neg fun h => due h.1

theorem endTaking_of_done {s : State} (done : s.event.due = none) (taken : s.event.untaken = []) (locked : s.locked = true) :
    endTaking s = setDue (if 3 ≤ s.base.badRun then some .badRunLost else none) s := by
  unfold endTaking
  by_cases bad : 3 ≤ s.base.badRun
  · rw [if_pos ⟨done, taken, locked, bad⟩, if_pos bad]
  · rw [if_neg fun h => bad h.2.2.2, if_neg bad, ← done]
    rfl

/-- The event has looked at the bad run itself. -/
theorem endTaking_halfCycleEvent (t : Nat) {s : State} (active : s.active = true) :
    endTaking (halfCycleEvent t s) = halfCycleEvent t s := by
  rw [halfCycleEvent_of_active t active]
  refine if_neg fun ⟨done, _, locked, bad⟩ => ?_
  have ends := (resumeTaking_ends _ _ done).2 locked
  omega

theorem takeCrossing_of_locked {m r : Nat} {s : State} (locked : s.locked = true) (reference : s.base.reference = some r) :
    takeCrossing m s = lockedCrossing m (m - r) (markCrossing m s) := by
  have marked : (markCrossing m s).locked = true := locked
  unfold takeCrossing
  dsimp only
  split
  next noReference => exact absurd (reference.symm.trans noReference) (Option.some_ne_none r)
  next r' reference' =>
    obtain rfl : r = r' := Option.some.inj (reference.symm.trans reference')
    exact if_pos marked

/-- A crossing in a lock is judged, and makes its event where it is not early. -/
theorem exec_crossing_of_locked {m r : Nat} {inp : EventInputs} {s : State} (ready : s.ready) (locked : s.locked = true)
    (reference : s.base.reference = some r) : exec (.crossing m inp) s = .next (endTaking
      (if judge (bandInForce s.base) (m - r) = .early then
        crossed inp (judged (judge (bandInForce s.base) (m - r)) m { s.base with now := m }) s
      else halfCycleEvent m (crossed inp (judged (judge (bandInForce s.base) (m - r)) m { s.base with now := m }) s))) := by
  have marked := markCrossing_withInputs m inp s
  rw [exec_crossing ready, takeCrossing_of_locked (by rw [withInputs_eq]; exact locked) (by rw [withInputs_eq]; exact reference), marked]
  rfl

/-- The bounds in force in a lock (R6). -/
theorem bandInForce_limits {b : TimeBase} (locked : b.lock = .lock50 ∨ b.lock = .lock60) :
    lowerLimit (bandInForce b) = (if b.lock = .lock50 then 55200 else 45600) ∧
    upperLimit (bandInForce b) = (if b.lock = .lock50 then 64800 else 54000) := by
  rcases locked with lock | lock <;> simp [bandInForce, lock, lowerLimit, upperLimit, tenthsMs, Config.unitsPerMs]

theorem locked_iff (s : State) : s.locked = true ↔ s.base.lock = .lock50 ∨ s.base.lock = .lock60 := by
  simp [State.locked]

theorem judge_early {band : Band} {i : Nat} (early : i < lowerLimit band) : judge band i = .early := if_pos early

/-- In band or late, a crossing becomes the reference (R6). -/
theorem judged_of_not_early {band : Band} {i : Nat} (m : Nat) (b : TimeBase) (accepted : lowerLimit band ≤ i) :
    judge band i ≠ .early ∧ judged (judge band i) m b =
      { b with reference := some m, badRun := if i ≤ upperLimit band then 0 else b.badRun + 1 } := by
  unfold judge
  rw [if_neg (by omega)]
  split
  next late => exact ⟨by simp, by rw [if_neg (by omega)]; rfl⟩
  next inBand => exact ⟨by simp, by rw [if_pos (by omega)]; rfl⟩

/-- Settles O13: early, accepted with an event, or accepted at a node that makes none. -/
theorem lockedCrossingIsJudgedAgainstTheBand : Obligations.LockedCrossingIsJudgedAgainstTheBand := by
  intro m r inp s ready locked reference low high
  obtain ⟨lower, upper⟩ := bandInForce_limits ((locked_iff s).mp locked)
  rw [exec_crossing_of_locked ready locked reference]
  obtain ⟨-, done, taken⟩ := ready
  generalize band : bandInForce s.base = x at lower upper
  by_cases early : m - r < low
  · rw [judge_early (lower ▸ early), if_pos rfl, endTaking_of_done (by exact done) (by exact taken) (by exact locked)]
    refine ⟨_, rfl, rfl, rfl, rfl, rfl, fun _ _ => rfl, fun _ => ⟨rfl, rfl, rfl⟩, ?_, ?_⟩
    · exact fun accepted => absurd early (Nat.not_lt.mpr accepted)
    · exact fun accepted => absurd early (Nat.not_lt.mpr accepted)
  · obtain ⟨notEarly, judgement⟩ := judged_of_not_early m { s.base with now := m } (band := x) (i := m - r)
      (by rw [lower]; exact Nat.not_lt.mp early)
    rw [if_neg notEarly, judgement, upper]
    cases active : s.active
    · rw [halfCycleEvent_of_inactive _ _ (by exact active), endTaking_of_done (by exact done) (by exact taken) (by exact locked)]
      refine ⟨_, rfl, rfl, rfl, rfl, rfl, fun _ _ => rfl, fun h => absurd h early, by simp, fun _ _ => ⟨?_, rfl, ?_⟩⟩
      · simp [setDue, crossed, State.setEvent, lineAt_of_inactive active]
      · show (if 3 ≤ (if m - r ≤ high then 0 else s.base.badRun + 1) then some Due.badRunLost else none) = _
        by_cases inBand : m - r ≤ high
        · simp [inBand]
        · simp only [inBand, if_false, false_or]
          split <;> split <;> first | rfl | omega
    · generalize state : crossed inp { s.base with
          now := m, reference := some m, badRun := if m - r ≤ high then 0 else s.base.badRun + 1 } s = u
      have on : u.active = true := by rw [← state]; exact active
      have inLock : u.locked = true := by rw [← state]; exact locked
      obtain ⟨base, fifo, pins, -, node, -, -, queue⟩ := halfCycleEvent_frame m u on
      have handovers := fun c => halfCycleEvent_handovers_at m u c
      have ends : (halfCycleEvent m u).event.due = none → m - r ≤ high ∨ s.base.badRun + 1 < 3 := by
        intro nothing
        rw [halfCycleEvent_of_active m on] at nothing
        have bad := (resumeTaking_ends _ _ nothing).2 (by simpa [State.locked, openEvent] using inLock)
        rw [(resumeTaking_frame _ _).1, openEvent_base, ← state] at bad
        by_contra none
        simp only [not_or] at none
        simp only [crossed, none.1, if_false] at bad
        exact none.2 bad
      rw [show Host.Outcome.next (endTaking (halfCycleEvent m u)) = (.next (halfCycleEvent m u) : Host.Outcome State Fault Refusal)
        from congrArg _ (endTaking_halfCycleEvent m on)]
      refine ⟨_, rfl, ?_, ?_, ?_, ?_, ?_, fun h => absurd h early, fun _ _ => ⟨?_, ends, ?_⟩, by simp⟩
      · rw [pins, ← state]; rfl
      · rw [fifo, ← state]; rfl
      · rw [queue, ← state]; rfl
      · rw [node, ← state]; rfl
      · intro c unnamed
        rw [handovers c (by rw [← state]; exact unnamed), ← state]
        rfl
      · rw [base, ← state]; rfl
      · rw [pins, ← state]; rfl

/-! ## The locking crossing (R5, R12) -/

theorem recentEvent_lockedBase {b : TimeBase} {x : Band} (band : b.runBand = some x) : recentEvent (lockedBase b) = true ↔
    ∃ l, b.lastEvent = some l ∧ b.now - l < if x = .f50 then 30000 else 25000 := by
  have last : (lockedBase b).lastEvent = b.lastEvent := rfl
  have inForce : bandInForce (lockedBase b) = x := by
    simp only [bandInForce, lockedBase, band, Option.getD_some]
    cases x <;> rfl
  unfold recentEvent
  rw [last, inForce]
  cases b.lastEvent with
  | none => simp
  | some l =>
    have now : (lockedBase b).now = b.now := rfl
    cases x <;> simp [now, nominalPeriod, Config.unitsPerMs] <;> omega

theorem lockedBase_eq {b : TimeBase} {x : Band} (band : b.runBand = some x) : lockedBase b = { b with
    lock := if x = .f50 then .lock50 else .lock60, band := some x, badRun := 0, freeRun := .stopped
    tickRate := if x = .f50 then 100 else 120 } := by
  simp only [lockedBase, band, Option.getD_some]
  cases x <;> rfl

/-- Settles O14: the locking crossing makes an event unless one is less than half a period old. -/
theorem lockingCrossingSetsBandAndRate : Obligations.LockingCrossingSetsBandAndRate := by
  intro x s due band half recent locked
  have base : ((setDue none s).setBase (lockedBase s.base)) = locked := by rw [lockedBase_eq band]; rfl
  have recentIff : recentEvent locked.base = true ↔ recent := by
    rw [← base]
    exact recentEvent_lockedBase band
  have stepped : lockStep (setDue none s) = if recentEvent locked.base then locked else halfCycleEvent locked.base.now locked := by
    rw [← base]
    rfl
  refine ⟨lockStep (setDue none s), exec_stepCommand_of_due due, ?_, fun active old => ?_⟩
  · rintro (idle | late)
    · rw [stepped, halfCycleEvent_of_inactive _ _ (by exact idle), ite_self]
    · rw [stepped, if_pos (recentIff.mpr late)]
  · rw [stepped, if_neg (mt recentIff.mp old)]
    obtain ⟨frame, fifo, -, -, -, -, -, queue⟩ := halfCycleEvent_frame locked.base.now locked active
    exact ⟨rfl, frame, fifo, queue, fun c unnamed => halfCycleEvent_handovers_at _ locked c unnamed⟩

/-! ## LOST (R7 to R9, R114) -/

/-- The node in LOST, its generator at `generator`. -/
def lostState (generator : FreeRun) (s : State) : State := { s with
  base := { s.base with lock := .lost, runBand := none, runLength := 0, freeRun := generator }
  gas := s.gas.map fun g => { g with spark := false } }

theorem enterLost_of_inactive {s : State} (idle : s.active = false) : enterLost s = lostState .stopped s := by
  have off : (sparksOff (s.setBase (lostBase s.base))).active = false := idle
  unfold enterLost
  rw [if_neg (by rw [off]; decide)]
  rfl

theorem enterLost_of_active {s : State} (active : s.active = true) : enterLost s =
    if firstFreeRun (lostBase s.base) ≤ s.base.now then
      halfCycleEvent s.base.now
        (lostState (.running (freePeriod (lostBase s.base)) (s.base.now + freePeriod (lostBase s.base))) s)
    else lostState (.running (freePeriod (lostBase s.base)) (firstFreeRun (lostBase s.base))) s :=
  if_pos active

theorem freePeriod_lostBase (b : TimeBase) : freePeriod (lostBase b) = if b.band = some .f60 then 50000 else 60000 := by
  cases band : b.band with
  | none => simp [freePeriod, lostBase, band, nominalPeriod, Config.unitsPerMs]
  | some x => cases x <;> simp [freePeriod, lostBase, band, nominalPeriod, Config.unitsPerMs]

/-- A spark that is off stays off while the blocks take an event: sparks start at the spark start point alone. -/
theorem halfCycleEvent_spark_off (t : Nat) {s : State} (c : Channel) (off : s.gas[c].spark = false) :
    (halfCycleEvent t s).gas[c].spark = false := by
  have one : ∀ (x : Taking) (u : State), u.gas[c].spark = false → (takeOne x u).gas[c].spark = false := by
    intro x u dark
    by_cases handover : x = .handover c
    · subst handover
      refine driverHandover_keeps (P := fun u => u.gas[c].spark = false) c u dark (fun l rest _ _ => by simpa using dark)
        fun l rest _ _ => ?_
      rw [takeGasLevel_gas]
      have burner : ∀ g : GasSequencer, g.spark = false → (handedBurner l g).spark = false := by
        intro g hg
        unfold handedBurner
        (repeat' split) <;> simp [hg]
      simpa using burner _ dark
    · obtain ⟨-, -, spark, -⟩ := takeOne_gas_kept x u c handover
      rw [spark, dark]
  unfold halfCycleEvent
  split
  · refine resumeTaking_keeps (P := fun u => u.gas[c].spark = false) (fun _ _ h => h) (fun _ h => h) _ (fun x _ u h => ?_) _ (by simpa using off)
    simpa using one x u h
  · exact off

theorem lostState_gas (generator : FreeRun) (s : State) (c : Channel) :
    (lostState generator s).gas[c] = { s.gas[c] with spark := false } := by
  simp [lostState]

/-- The sparks are off in LOST, and the burners go on (R114). -/
theorem lostState_burner (generator : FreeRun) (s : State) (c : Channel) : (lostState generator s).gas[c].spark = false ∧
    (lostState generator s).gas[c].heat = s.gas[c].heat ∧ (lostState generator s).gas[c].valve = s.gas[c].valve := by
  rw [lostState_gas]
  exact ⟨rfl, rfl, rfl⟩

theorem halfCycleEvent_lostState_burner (t : Nat) (generator : FreeRun) (s : State) (c : Channel) :
    (halfCycleEvent t (lostState generator s)).gas[c].spark = false ∧
    (.handover c ∉ s.event.order →
      (halfCycleEvent t (lostState generator s)).handovers[c] = s.handovers[c] ∧
      (halfCycleEvent t (lostState generator s)).gas[c].heat = s.gas[c].heat ∧
      (halfCycleEvent t (lostState generator s)).gas[c].valve = s.gas[c].valve) := by
  obtain ⟨off, heat, valve⟩ := lostState_burner generator s c
  refine ⟨halfCycleEvent_spark_off t c off, fun unnamed => ?_⟩
  obtain ⟨heat', valve', -⟩ := halfCycleEvent_gas_kept t (lostState generator s) c unnamed
  exact ⟨halfCycleEvent_handovers_at t _ c unnamed, heat'.trans heat, valve'.trans valve⟩

/-- Settles O15: LOST is entered with an event where the generator's first due time has passed. -/
theorem thirdBadCrossingEntersLost : Obligations.ThirdBadCrossingEntersLost := by
  intro s due period first lost
  have periodEq : freePeriod (lostBase s.base) = period := freePeriod_lostBase s.base
  have firstEq : firstFreeRun (lostBase s.base) = first := congrArg _ periodEq
  refine ⟨enterLost (setDue none s), exec_stepCommand_of_due due, fun idle => enterLost_of_inactive (by exact idle), ?_, ?_, ?_⟩
  · intro active later
    rw [enterLost_of_active (by exact active)]
    simp only [setDue_frame, periodEq, firstEq, Nat.not_le.mpr later, if_false]
    rfl
  · intro active passed
    rw [enterLost_of_active (by exact active)]
    simp only [setDue_frame, periodEq, firstEq, passed, if_true]
    obtain ⟨frame, fifo, -, -, -, -, -, queue⟩ := halfCycleEvent_frame s.base.now
      (lostState (.running period (s.base.now + period)) (setDue none s)) active
    exact ⟨rfl, frame, fifo, queue⟩
  · intro c
    cases active : s.active
    · obtain ⟨off, heat, valve⟩ := lostState_burner .stopped (setDue none s) c
      rw [enterLost_of_inactive (by exact active)]
      exact ⟨off, fun _ => ⟨rfl, heat, valve⟩⟩
    · rw [enterLost_of_active (by exact active)]
      split
      · exact halfCycleEvent_lostState_burner _ _ (setDue none s) c
      · obtain ⟨off, heat, valve⟩ := lostState_burner (.running (freePeriod (lostBase (setDue none s).base))
          (firstFreeRun (lostBase (setDue none s).base))) (setDue none s) c
        exact ⟨off, fun _ => ⟨rfl, heat, valve⟩⟩

end Sys2Proof.Machine
end

section
/-!
PROOF. The time base's own events (chapter 1): the timeout of a lock and the free-run generator's due time.
-/

namespace Sys2Proof.Machine

/-- The node with the level changes, the line and the order of an event that comes without a crossing, and a time base `b`. -/
def sensed (inp : EventInputs) (b : TimeBase) (s : State) : State := { s with
  base := b
  pins := { s.pins with sense := inp.sense }
  receiver := s.lineAt inp.lineBusy
  event := { s.event with order := inp.order } }

theorem withInputs_eq_sensed (inp : EventInputs) (s : State) : withInputs inp s = sensed inp s.base s := withInputs_eq inp s

/-! ## The timeout (R7) -/

theorem exec_lockTimeout {inp : EventInputs} {s : State} (ready : s.ready) :
    exec (.lockTimeout inp) s = .next (takeTimeout (withInputs inp s)) :=
  exec_arrival_of_ready (f := fun u => takeTimeout (withInputs inp u)) rfl ready

theorem takeTimeout_of_noReference {s : State} (none : s.base.reference = none) : takeTimeout s = s := by
  unfold takeTimeout
  rw [none]

theorem takeTimeout_of_reference {s : State} {r : Nat} (reference : s.base.reference = some r) : takeTimeout s =
    if s.locked then enterLost (s.setBase { s.base with now := timeoutTime (bandInForce s.base) r }) else s := by
  unfold takeTimeout
  rw [reference]

theorem takeTimeout_of_unlocked {s : State} (unlocked : s.locked = false) : takeTimeout s = s := by
  cases reference : s.base.reference with
  | none => exact takeTimeout_of_noReference reference
  | some r => rw [takeTimeout_of_reference reference, unlocked]; rfl

/-- One and a half nominal periods after the reference crossing (R7). -/
theorem timeoutTime_of_locked {b : TimeBase} (r : Nat) (locked : b.lock = .lock50 ∨ b.lock = .lock60) :
    timeoutTime (bandInForce b) r =
      r + (if b.lock = .lock50 then 60000 else 50000) + (if b.lock = .lock50 then 60000 else 50000) / 2 := by
  rw [Nat.add_assoc, timeoutTime]
  refine congrArg (r + ·) ?_
  rcases locked with lock | lock
  · simp only [bandInForce, lock, nominalPeriod, Config.unitsPerMs, if_true]
  · simp only [bandInForce, lock, nominalPeriod, Config.unitsPerMs, reduceCtorEq, if_false]

/-- In a lock the kept band is that of the lock (R12), so LOST keeps its period. -/
theorem freePeriod_of_locked {s : State} (fits : s.rateFits) (locked : s.locked = true) :
    freePeriod (lostBase s.base) = if s.base.lock = .lock50 then 60000 else 50000 := by
  obtain ⟨-, lock50, lock60, -⟩ := fits
  rw [freePeriod_lostBase]
  rcases (locked_iff s).mp locked with lock | lock
  · rw [(lock50 lock).1, lock]
    rfl
  · rw [(lock60 lock).1, lock]
    rfl

theorem firstFreeRun_of_event {b : TimeBase} {l : Nat} (last : b.lastEvent = some l) : firstFreeRun b = l + freePeriod b := by
  simp [firstFreeRun, last]

theorem firstFreeRun_of_noEvent {b : TimeBase} {r : Nat} (last : b.lastEvent = none) (reference : b.reference = some r) :
    firstFreeRun b = r + freePeriod b := by
  simp [firstFreeRun, last, reference]

/-- Settles O16: the timeout enters LOST at its moment, by the generator's first due time. -/
theorem timeoutEntersLostWithAnEvent : Obligations.TimeoutEntersLostWithAnEvent := by
  intro inp s ready
  rw [exec_lockTimeout ready, withInputs_eq_sensed]
  refine ⟨fun none => ?_, ?_⟩
  · have unmoved : takeTimeout (sensed inp s.base s) = sensed inp s.base s :=
      none.elim (fun h => takeTimeout_of_unlocked (by exact h)) fun h => takeTimeout_of_noReference (by exact h)
    rw [unmoved]
    rfl
  intro r reference locked period moment lost
  have momentEq : timeoutTime (bandInForce s.base) r = moment := timeoutTime_of_locked r ((locked_iff s).mp locked)
  have taken : takeTimeout (sensed inp s.base s) = enterLost (sensed inp { s.base with now := moment } s) := by
    rw [takeTimeout_of_reference (s := sensed inp s.base s) reference, if_pos (by exact locked), ← momentEq]
    rfl
  have lostEq : ∀ generator, lostState generator (sensed inp { s.base with now := moment } s) = lost generator := fun _ => rfl
  rw [taken]
  refine ⟨fun idle => congrArg _ (enterLost_of_inactive (by exact idle)), fun active fits l last later => ?_, fun active fits passed => ?_⟩
  · have periodEq : freePeriod (lostBase { s.base with now := moment }) = period := freePeriod_of_locked fits locked
    have first : firstFreeRun (lostBase { s.base with now := moment }) = l + period :=
      (firstFreeRun_of_event (by exact last)).trans (congrArg _ periodEq)
    rw [enterLost_of_active (by exact active)]
    simp only [sensed, first, periodEq, Nat.not_le.mpr later, if_false]
    rfl
  · have periodEq : freePeriod (lostBase { s.base with now := moment }) = period := freePeriod_of_locked fits locked
    have first : firstFreeRun (lostBase { s.base with now := moment }) ≤ moment := by
      cases last : s.base.lastEvent with
      | none =>
        rw [firstFreeRun_of_noEvent (by exact last) (by exact reference), periodEq]
        exact Nat.le_add_right _ _
      | some l =>
        rw [firstFreeRun_of_event (by exact last), periodEq]
        exact passed l last
    have entered : enterLost (sensed inp { s.base with now := moment } s) =
        halfCycleEvent moment (lost (.running period (moment + period))) := by
      rw [enterLost_of_active (by exact active)]
      exact (if_pos first).trans (by simp only [sensed, periodEq]; rfl)
    obtain ⟨frame, fifo, -, -, -, -, -, queue⟩ := halfCycleEvent_frame moment (lost (.running period (moment + period))) active
    exact ⟨_, congrArg _ entered, rfl, frame, fifo, queue, fun c =>
      halfCycleEvent_lostState_burner moment (.running period (moment + period)) (sensed inp { s.base with now := moment } s) c⟩

/-! ## The generator's due time (R10) -/

theorem exec_freeRunDue {inp : EventInputs} {s : State} (ready : s.ready) :
    exec (.freeRunDue inp) s = .next (takeFreeRun (withInputs inp s)) :=
  exec_arrival_of_ready (f := fun u => takeFreeRun (withInputs inp u)) rfl ready

theorem takeFreeRun_of_stopped {s : State} (stopped : s.base.freeRun = .stopped) : takeFreeRun s = s := by
  unfold takeFreeRun
  rw [stopped]

theorem takeFreeRun_of_running {s : State} {p d : Nat} (running : s.base.freeRun = .running p d) (active : s.active = true) :
    takeFreeRun s = halfCycleEvent d (s.setBase { s.base with freeRun := .running p (d + p), now := d }) := by
  unfold takeFreeRun
  rw [running]
  exact if_pos active

/-- Settles O17: the generator's event is a half-cycle event at its due time. -/
theorem freeRunEventAdvancesThePhase : Obligations.FreeRunEventAdvancesThePhase := by
  intro inp s ready
  rw [exec_freeRunDue ready, withInputs_eq_sensed]
  refine ⟨fun stopped => ?_, fun p d running active => ?_⟩
  · rw [takeFreeRun_of_stopped (by exact stopped)]
    rfl
  · have taken := takeFreeRun_of_running (s := sensed inp s.base s) running active
    obtain ⟨frame, fifo, pins, -, -, -, -, queue⟩ :=
      halfCycleEvent_frame d (sensed inp { s.base with freeRun := .running p (d + p), now := d } s) active
    exact ⟨_, congrArg _ taken, frame, pins, fifo, queue, fun c unnamed => halfCycleEvent_handovers_at d _ c unnamed, rfl⟩

end Sys2Proof.Machine
end

section
/-!
PROOF. A PROGRAM (R23 to R28): its fields, its refusal, where its stage is stored, what it edits.
-/

namespace Sys2Proof.Machine

/-! ## Levels handed (R22) -/

theorem effectiveLevel_of_not_running {p : Program} (still : p.state ≠ .running) : effectiveLevel p = 0 := by
  unfold effectiveLevel
  cases state : p.state
  case running => exact absurd state still
  all_goals rfl

@[simp] theorem handedOn_self (p : Program) (levels : List Nat) : handedOn p p levels = levels := if_pos rfl

/-- A change of a record hands the level that it changes. -/
theorem updateProgram_handedOn (c : Channel) (p : Program) (s : State) :
    (updateProgram c p s).handovers = s.handovers.set c (handedOn s.programs[c] p s.handovers[c]) := by
  rw [updateProgram_handovers, handedOn]
  split
  · exact (Vector.set_getElem_self _).symm
  · rfl

theorem updateProgram_of_sameLevel {c : Channel} {p : Program} {s : State}
    (same : effectiveLevel p = effectiveLevel s.programs[c]) : updateProgram c p s = s.setProgram c p :=
  if_pos same

/-! ## Reports of a change on one channel (R161) -/

section
variable {s t : State} {c : Channel} {p : Program}

/-- Another channel's report is left by a change of channel `c`'s record. -/
theorem reportedOf_of_other (programs : t.programs = s.programs.set c p) (elements : t.elements = s.elements) (gas : t.gas = s.gas)
    (loader : t.loader = s.loader) {d : Channel} (other : d ≠ c) : reportedOf s d = reportedOf t d := by
  refine (reportedOf_congr ?_ (by rw [elements]) (by rw [gas]) (by rw [loader])).symm
  rw [programs]
  exact Vector.getElem_set_ne _ _ fun h => other (Fin.ext h.symm)

/-- The report of a channel whose record alone is changed. -/
theorem reportedOf_of_program (programs : t.programs = s.programs.set c p) (elements : t.elements = s.elements) (gas : t.gas = s.gas)
    (loader : t.loader = s.loader) : reportedOf s c = reportedOf t c ↔ p.state = s.programs[c].state ∧
      p.index = s.programs[c].index ∧ p.repeatsDone = s.programs[c].repeatsDone ∧ p.alert = s.programs[c].alert ∧
      p.fault = s.programs[c].fault := by
  rw [reportedOf_eq_iff (by rw [loader]), programs, elements, gas]
  simp

/-- A change of one record asks for that channel's report alone, and only where it shows. -/
theorem noteReports_one_only (programs : t.programs = s.programs.set c p) (elements : t.elements = s.elements) (gas : t.gas = s.gas)
    (loader : t.loader = s.loader) : onlyFlags (· = .ofChannel .state c) t.tx (noteReports s t).tx := by
  refine (noteReports_only s t).mono fun r ⟨d, hr, differs⟩ => ?_
  by_cases same : d = c
  · rw [hr, same]
  · exact absurd (reportedOf_of_other programs elements gas loader same) differs

theorem noteReports_of_unshown (programs : t.programs = s.programs.set c p) (elements : t.elements = s.elements) (gas : t.gas = s.gas)
    (loader : t.loader = s.loader) (same : reportedOf s c = reportedOf t c) : noteReports s t = t := by
  refine noteReports_of_same fun d => ?_
  by_cases here : d = c
  · rw [here, same]
  · exact reportedOf_of_other programs elements gas loader here

end

/-! ## The notice (R154) -/

theorem targetsNode_popped {f : RxFrame} {s : State} (rest : List RxFrame) (own : targetOf f.body = s.loader.options.address.val) :
    targetsNode f (s.popped rest) = true :=
  (targetsNode_iff f s).mpr own

theorem exec_program_of_channel {f : RxFrame} {rest : List RxFrame} {c : Channel} {s : State} (delivers : s.delivers .program f rest)
    (own : targetOf f.body = s.loader.options.address.val) (channel : (readProgram f.body).channel = c.val) :
    exec .program s = .next (noteReports (s.popped rest) (programOn (readProgram f.body) c (s.popped rest))) := by
  have named : channelOf (readProgram f.body).channel = some c := by simp [channelOf, channel]
  rw [exec_delivery rfl delivers, takeProgramNotice, if_pos (targetsNode_popped rest own), named]
  rfl

/-- A channel number above 3 names no channel. -/
theorem exec_program_of_noChannel {f : RxFrame} {rest : List RxFrame} {s : State} (delivers : s.delivers .program f rest)
    (own : targetOf f.body = s.loader.options.address.val) (channel : 4 ≤ (readProgram f.body).channel) :
    exec .program s = .next (s.popped rest) := by
  have none : channelOf (readProgram f.body).channel = Option.none := dif_neg (by omega)
  rw [exec_delivery rfl delivers, takeProgramNotice, if_pos (targetsNode_popped rest own), none]

theorem basisOfCode_eq (n : Nat) : basisOfCode n = if n = 0 then some .wall else if n = 1 then some .heat else none := by
  rcases n with _ | _ | n <;> simp [basisOfCode]

theorem actionOfCode_eq (n : Nat) : actionOfCode n = if n = 0 then some .next else if n = 1 then some .off
    else if n = 2 then some .again else if n = 3 then some .keep else none := by
  rcases n with _ | _ | _ | _ | n <;> simp [actionOfCode]

/-! ## What is in range (R21, R25) -/

theorem programStage_of_carries {k : ChannelKind} {n : ProgramNotice} {st : Stage} (used : k ≠ .unused)
    (carries : carriesStage k n st) : programStage k n = some st := by
  obtain ⟨basis, action, level, duration, index, one, six, limit, element, gas, long, standing⟩ := carries
  have fits : stageValid k st = true := by
    have room : st.level ≤ maxLevel k := by
      cases k
      case unused => exact absurd rfl used
      case element => exact element rfl
      case gas => exact gas rfl
    have timed : st.level ≠ 0 ∨ st.basis ≠ .heat := not_and_or.mp standing
    simpa [stageValid, room, long] using timed
  simp only [programStage, basis, action, level, duration, within, fits, index, one, six, limit, decide_true, Bool.and_self, if_true]

theorem programStage_of_fault {k : ChannelKind} {n : ProgramNotice} (fault : carriesFault k n) : programStage k n = none := by
  by_contra carried
  obtain ⟨st, carried⟩ := Option.ne_none_iff_exists'.mp carried
  obtain ⟨basis, action, level, duration, index, one, six, limit, valid⟩ := programStage_some carried
  obtain ⟨element, gas, long, standing⟩ := stageFits_of_valid valid
  rw [carriesFault, basis, action, level, duration] at fault
  rcases fault with h | h | h | h | ⟨kind, h⟩ | ⟨kind, h⟩ | h | ⟨zero, heat⟩ | h | h
  · omega
  · omega
  · omega
  · omega
  · have := element kind
    omega
  · have := gas kind
    omega
  · omega
  · exact standing ⟨zero, Option.some.inj heat⟩
  · cases h
  · cases h

theorem kind_of_used {s : State} {c : Channel} (used : s.used c = true) : s.kind c ≠ .unused := by
  simpa [State.used] using used

/-! ## A refusal (R24, R160) -/

theorem noteReports_refuse (c : Channel) (s : State) : noteReports s (refuse c s) = refuse c s :=
  noteReports_of_unshown (refuse_programs c s) (by simp) (by simp) (by simp)
    ((reportedOf_of_program (refuse_programs c s) (by simp) (by simp) (by simp)).mpr ⟨rfl, rfl, rfl, rfl, rfl⟩)

/-- A refusal changes the record and asks for its report. -/
theorem refuse_spec (c : Channel) (s : State) :
    refuse c s = { s with programs := s.programs.set c (refusedRecord s.programs[c]), tx := (refuse c s).tx } ∧
    (refuse c s).programs[c] = refusedRecord s.programs[c] ∧ (refuse c s).asked (.ofChannel .state c) = true ∧
    onlyFlags (fun r => r = .ofChannel .state c) s.tx (refuse c s).tx := by
  refine ⟨?_, ?_, ?_, refuse_only c s⟩
  · rw [State.eq_iff]
    simp [refuse_programs, refusedRecord]
  · simp [refuse_programs, refusedRecord]
  · rw [State.asked, refuse, flagOf_raiseState, if_pos rfl]
    rfl

/-- Settles O21: what R25 refuses carries no stage. -/
theorem programOutOfRangeIsRefused : Obligations.ProgramOutOfRangeIsRefused := by
  intro f rest s delivers own
  refine ⟨exec_program_of_noChannel delivers own, fun c channel refused => ?_⟩
  have refuses : programOn (readProgram f.body) c (s.popped rest) = refuse c (s.popped rest) :=
    programOn_of_refused (refused.imp id (Or.imp id programStage_of_fault))
  obtain ⟨frame, -, asked, only⟩ := refuse_spec c (s.popped rest)
  rw [exec_program_of_channel delivers own channel, refuses, noteReports_refuse]
  exact ⟨_, rfl, frame, asked, only⟩

/-! ## Storing a stage (R26) -/

theorem stagesStored_storeStage (n : ProgramNotice) (st : Stage) (p : Program) :
    stagesStored n st p.stages (storeStage n st p).stages :=
  storeStage_stages n st p

theorem storeStage_eq_storedRecord (n : ProgramNotice) (st : Stage) (p : Program) :
    storeStage n st p = storedRecord n (storeStage n st p).stages p := rfl

/-- Settles O20: the stage is stored at its place and the program is READY. -/
theorem programIsStoredWhenNotRunning : Obligations.ProgramIsStoredWhenNotRunning := by
  refine ⟨fun body => ⟨rfl, rfl, rfl, rfl, rfl, rfl, rfl, basisOfCode_eq _, actionOfCode_eq _⟩, ?_⟩
  intro f rest c st s delivers own channel run used carries state
  have stored := programOn_of_stored (s := s.popped rest) used run (programStage_of_carries (kind_of_used used) carries) state
  have still : s.programs[c].state ≠ .running := by rcases state with h | h | h <;> rw [h] <;> decide
  have level : effectiveLevel (setUpProgram (readProgram f.body) st s.programs[c]) = effectiveLevel s.programs[c] := by
    rw [effectiveLevel_of_not_running still, effectiveLevel_of_not_running (by simp [setUpProgram])]
  rw [updateProgram_of_sameLevel (by exact level)] at stored
  rw [exec_program_of_channel delivers own channel, stored]
  generalize kept : setUpProgram (readProgram f.body) st (s.popped rest).programs[c] = q
  have programs : ((s.popped rest).setProgram c q).programs = (s.popped rest).programs.set c q := rfl
  refine ⟨_, rfl, ?_, ?_, ?_, noteReports_one_only programs rfl rfl rfl, fun notReady => ?_⟩
  · rw [State.eq_iff]
    simp [State.popped]
  · rw [(noteReports_frame _ _).2.1]
    simp only [State.programs_setProgram_self, ← kept]
    exact stagesStored_storeStage _ st s.programs[c]
  · simp [← kept]
    rfl
  · refine asked_noteReports fun same => notReady ?_
    obtain ⟨state, -⟩ := (reportedOf_of_program programs rfl rfl rfl).mp same
    rw [← kept] at state
    exact state.symm

/-! ## Editing a running program (R27, R28) -/

theorem carryEnd_fault (st : Stage) (p : Program) : (carryEnd st p).fault = p.fault := by
  unfold carryEnd
  cases st.action
  case next => simp only [endNext]; split <;> rfl
  case off => rfl
  case again => simp only [endRepeat]; split <;> rfl
  case keep => rfl

theorem editCurrent_fault (st : Stage) (p : Program) : (editCurrent st p).fault = p.fault := by
  unfold editCurrent
  split
  · exact carryEnd_fault st p
  · rfl

/-- What the record is after an edit in range (R28): `p` is the record before it. -/
def editedRecord (n : ProgramNotice) (st : Stage) (p : Program) : Program :=
  if n.index = p.index then editCurrent st (storeStage n st p) else storeStage n st p

/-- An edit in range stores the stage, and what it does to the stage being timed follows behind. -/
theorem programOn_of_edit {n : ProgramNotice} {c : Channel} {st : Stage} {s : State} (used : s.used c = true) (run : s.inRun = true)
    (carried : programStage (s.kind c) n = some st) (timing : s.programs[c].state = .running ∨ s.programs[c].state = .held)
    (index : s.programs[c].index < n.count) (repeats : s.programs[c].repeatsDone ≤ n.limit) :
    programOn n c s = { s with
      programs := s.programs.set c (editedRecord n st s.programs[c])
      handovers := s.handovers.set c (handedOn (storeStage n st s.programs[c]) (editedRecord n st s.programs[c])
        (handedOn s.programs[c] (storeStage n st s.programs[c]) s.handovers[c])) } := by
  by_cases same : n.index = s.programs[c].index
  · have record : editedRecord n st s.programs[c] = editCurrent st (storeStage n st s.programs[c]) := if_pos same
    rw [programOn_of_currentStage used run carried timing index repeats same, State.eq_iff, record]
    simp [updateProgram_handedOn]
  · have record : editedRecord n st s.programs[c] = storeStage n st s.programs[c] := if_neg same
    rw [programOn_of_otherStage used run carried timing index repeats same, State.eq_iff, record]
    simp [updateProgram_handedOn]

/-- Settles O22: refused, or stored and carried out as `editedRecord` says. -/
theorem programEditsARunningProgram : Obligations.ProgramEditsARunningProgram := by
  intro f rest c st s delivers own channel run used carries timing n p
  have carried := programStage_of_carries (kind_of_used used) carries
  rw [exec_program_of_channel delivers own channel]
  by_cases fault : n.count ≤ p.index ∨ n.limit < p.repeatsDone
  · have refuses := programOn_of_editFault (s := s.popped rest) used run carried timing fault
    obtain ⟨frame, record, asked, only⟩ := refuse_spec c (s.popped rest)
    rw [refuses, noteReports_refuse]
    refine ⟨_, rfl, ?_, only, fun _ => ⟨record, by simp [State.popped], asked⟩, fun index repeats => by omega⟩
    rw [State.eq_iff] at frame ⊢
    simp [refuse_programs, State.popped]
  · push Not at fault
    obtain ⟨index, repeats⟩ := fault
    have edited := programOn_of_edit (s := s.popped rest) used run carried timing index repeats
    generalize programOn (readProgram f.body) c (s.popped rest) = u at edited
    have programs : u.programs = (s.popped rest).programs.set c (editedRecord n st p) := (congrArg State.programs edited :)
    have handovers : u.handovers = s.handovers.set c (handedOn (storeStage n st p) (editedRecord n st p)
        (handedOn p (storeStage n st p) s.handovers[c])) := (congrArg State.handovers edited :)
    have elements : u.elements = (s.popped rest).elements := (congrArg State.elements edited :)
    have gas : u.gas = (s.popped rest).gas := (congrArg State.gas edited :)
    have loader : u.loader = (s.popped rest).loader := (congrArg State.loader edited :)
    have tx : u.tx = s.tx := (congrArg State.tx edited :)
    have record : (noteReports (s.popped rest) u).programs[c] = editedRecord n st p := by simp [programs]
    have shown := reportedOf_of_program programs elements gas loader
    have kept : (editedRecord n st p).fault = p.fault := by
      unfold editedRecord
      split
      · exact editCurrent_fault st _
      · rfl
    refine ⟨noteReports (s.popped rest) u, rfl, ?_, ?_, fun h => by omega, fun _ _ => ?_⟩
    · rw [record, State.eq_iff]
      simp [edited, State.popped]
      rfl
    · exact (noteReports_one_only programs elements gas loader).after tx
    · refine ⟨(storeStage n st p).stages, stagesStored_storeStage n st p, ?_, fun other => ?_, fun same counts => ?_, fun same long ends => ?_,
        fun changed => ?_, fun unchanged => ?_⟩
      · rw [record, (noteReports_frame _ _).2.2.1, handovers]
        rfl
      · rw [record, editedRecord, if_neg other]
        rfl
      · have goesOn : ¬ (st.duration ≠ 0 ∧ st.duration ≤ p.elapsed) := by omega
        rw [record, editedRecord, if_pos same]
        exact if_neg goesOn
      · rw [record, editedRecord, if_pos same]
        exact if_pos ⟨long, ends⟩
      · refine asked_noteReports fun same => ?_
        obtain ⟨state, index, repeats, alert, -⟩ := shown.mp same
        rw [record] at changed
        rcases changed with h | h | h | h
        · exact h state
        · exact h index
        · exact h repeats
        · exact h alert
      · rw [record] at unchanged
        push Not at unchanged
        obtain ⟨state, index, repeats, alert⟩ := unchanged
        rw [noteReports_of_unshown programs elements gas loader (shown.mpr ⟨state, index, repeats, alert, kept⟩), tx]

end Sys2Proof.Machine
end

section
/-!
PROOF. Commands on several channels (R29 to R33): each acts on the part of the node that belongs to its channel, so what the four leave of
one channel is what the one on that channel makes.
-/

namespace Sys2Proof.Machine

/-! ## A channel's part of the node -/

/-- Two nodes agree on everything of channel `c` and on what all channels read. -/
structure sameSlot (c : Channel) (s t : State) : Prop where
  program : t.programs[c] = s.programs[c]
  levels : t.handovers[c] = s.handovers[c]
  driver : t.elements[c] = s.elements[c]
  burner : t.gas[c] = s.gas[c]
  outstanding : t.arbiter.freeOutstanding[c] = s.arbiter.freeOutstanding[c]
  queue : t.arbiter.queue = s.arbiter.queue
  flags : ∀ k, flagOf t.tx (.ofChannel k c) = flagOf s.tx (.ofChannel k c)
  loader : t.loader = s.loader
  pins : t.pins = s.pins

namespace sameSlot

variable {c : Channel} {s t u : State}

theorem refl (c : Channel) (s : State) : sameSlot c s s := ⟨rfl, rfl, rfl, rfl, rfl, rfl, fun _ => rfl, rfl, rfl⟩

theorem trans (first : sameSlot c s t) (second : sameSlot c t u) : sameSlot c s u where
  program := second.program.trans first.program
  levels := second.levels.trans first.levels
  driver := second.driver.trans first.driver
  burner := second.burner.trans first.burner
  outstanding := second.outstanding.trans first.outstanding
  queue := second.queue.trans first.queue
  flags k := (second.flags k).trans (first.flags k)
  loader := second.loader.trans first.loader
  pins := second.pins.trans first.pins

theorem used (h : sameSlot c s t) : t.used c = s.used c := by rw [State.used, State.used, State.kind, State.kind, h.loader]

theorem inRun (h : sameSlot c s t) : t.inRun = s.inRun := by rw [State.inRun, State.inRun, h.loader]

theorem kind (h : sameSlot c s t) : t.kind c = s.kind c := by rw [State.kind, State.kind, h.loader]

theorem lockedOut (h : sameSlot c s t) : lockedOut c t = lockedOut c s := by
  rw [Machine.lockedOut, Machine.lockedOut, h.kind, h.burner]

theorem startAccepted (h : sameSlot c s t) : startAccepted c t = startAccepted c s := by
  rw [Machine.startAccepted, Machine.startAccepted, h.program, h.pins, h.lockedOut]

theorem reported (h : sameSlot c s t) : reportedOf t c = reportedOf s c :=
  reportedOf_congr h.program h.driver h.burner (by rw [h.loader])

end sameSlot

theorem getElem_set_other {α : Type} (v : Vector α 4) (x : α) {c d : Channel} (other : c ≠ d) : (v.set d x)[c] = v[c] :=
  Vector.getElem_set_ne _ _ fun h => other (Fin.ext h.symm)

theorem getElem_set_same {α : Type} (v : Vector α 4) (x : α) (c : Channel) : (v.set c x)[c] = x :=
  Vector.getElem_set_self _

/-! ## An operation leaves the other channels' parts -/

section
variable {c d : Channel} (s : State)

theorem raiseState_other (other : c ≠ d) : sameSlot c s (raiseState d s) :=
  ⟨by simp, by simp, by simp, by simp, by simp, by simp, fun k => by simp [flagOf_raiseState, other], by simp, by simp⟩

theorem setProgram_other (p : Program) (other : c ≠ d) : sameSlot c s (s.setProgram d p) :=
  ⟨getElem_set_other _ _ other, rfl, rfl, rfl, rfl, rfl, fun _ => rfl, rfl, rfl⟩

theorem setGas_other (g : GasSequencer) (other : c ≠ d) : sameSlot c s (s.setGas d g) :=
  ⟨rfl, rfl, rfl, getElem_set_other _ _ other, rfl, rfl, fun _ => rfl, rfl, rfl⟩

theorem handOver_other (l : Nat) (other : c ≠ d) : sameSlot c s (handOver d l s) :=
  ⟨rfl, getElem_set_other _ _ other, rfl, rfl, rfl, rfl, fun _ => rfl, rfl, rfl⟩

theorem raiseSparkFree_other (other : c ≠ d) : sameSlot c s (raiseSparkFree d s) :=
  ⟨by simp, by simp, by simp, by simp, getElem_set_other _ _ other, by simp, fun k => by simp [flagOf_raiseSparkFree, other],
    by simp, by simp⟩

theorem refuse_other (other : c ≠ d) : sameSlot c s (refuse d s) :=
  (setProgram_other s _ other).trans (raiseState_other _ other)

theorem updateProgram_other (p : Program) (other : c ≠ d) : sameSlot c s (updateProgram d p s) := by
  unfold updateProgram
  split
  · exact setProgram_other s p other
  · exact (setProgram_other s p other).trans (handOver_other _ _ other)

theorem standingFree_other (other : c ≠ d) : sameSlot c s (standingFree d s) := by
  unfold standingFree
  split
  · exact raiseSparkFree_other s other
  · exact .refl c s

theorem clearLockout_other (other : c ≠ d) : sameSlot c s (clearLockout d s) := by
  unfold clearLockout
  split
  · exact (setGas_other s _ other).trans (standingFree_other _ other)
  · exact .refl c s

theorem stopChannel_other (other : c ≠ d) : sameSlot c s (stopChannel d s) := by
  unfold stopChannel
  split
  · exact .refl c s
  · exact (updateProgram_other s _ other).trans (clearLockout_other _ other)

theorem stopOn_other (other : c ≠ d) : sameSlot c s (stopOn d s) := by
  unfold stopOn
  split
  · exact refuse_other s other
  · exact stopChannel_other s other

theorem startOn_other (other : c ≠ d) : sameSlot c s (startOn d s) := by
  unfold startOn
  split
  · exact refuse_other s other
  · split
    · exact updateProgram_other s _ other
    · exact refuse_other s other

theorem holdOn_other (other : c ≠ d) : sameSlot c s (holdOn d s) := by
  unfold holdOn
  split
  · exact refuse_other s other
  · split
    · exact updateProgram_other s _ other
    · exact .refl c s

theorem resumeOn_other (other : c ≠ d) : sameSlot c s (resumeOn d s) := by
  unfold resumeOn
  split
  · exact refuse_other s other
  · split
    · exact updateProgram_other s _ other
    · exact .refl c s

end

/-! ## An operation reads its own channel's part -/

namespace sameSlot

variable {c : Channel} {s t : State}

theorem after_setProgram (h : sameSlot c s t) (p : Program) : sameSlot c (s.setProgram c p) (t.setProgram c p) :=
  { h with program := by simp }

theorem after_setGas (h : sameSlot c s t) (g : GasSequencer) : sameSlot c (s.setGas c g) (t.setGas c g) :=
  { h with burner := by simp }

theorem after_handOver (h : sameSlot c s t) (l : Nat) : sameSlot c (handOver c l s) (handOver c l t) := by
  have levels : (t.handovers.set c (t.handovers[c] ++ [l]))[c] = (s.handovers.set c (s.handovers[c] ++ [l]))[c] := by
    rw [getElem_set_same, getElem_set_same, h.levels]
  exact { h with levels := levels }

theorem after_raiseState (h : sameSlot c s t) : sameSlot c (raiseState c s) (raiseState c t) where
  program := by simpa using h.program
  levels := by simpa using h.levels
  driver := by simpa using h.driver
  burner := by simpa using h.burner
  outstanding := by simpa using h.outstanding
  queue := by simpa using h.queue
  flags k := by simp only [flagOf_raiseState, h.flags]
  loader := by simpa using h.loader
  pins := by simpa using h.pins

theorem after_raiseSparkFree (h : sameSlot c s t) : sameSlot c (raiseSparkFree c s) (raiseSparkFree c t) where
  program := by simpa using h.program
  levels := by simpa using h.levels
  driver := by simpa using h.driver
  burner := by simpa using h.burner
  outstanding := (getElem_set_same _ _ _).trans (getElem_set_same _ _ _).symm
  queue := by simpa using h.queue
  flags k := by simp only [flagOf_raiseSparkFree, h.flags]
  loader := by simpa using h.loader
  pins := by simpa using h.pins

theorem after_refuse (h : sameSlot c s t) : sameSlot c (refuse c s) (refuse c t) := by
  unfold refuse
  rw [h.program]
  exact (h.after_setProgram _).after_raiseState

theorem after_updateProgram (h : sameSlot c s t) (p : Program) : sameSlot c (updateProgram c p s) (updateProgram c p t) := by
  unfold updateProgram
  rw [h.program]
  split
  · exact h.after_setProgram p
  · exact (h.after_setProgram p).after_handOver _

theorem after_standingFree (h : sameSlot c s t) : sameSlot c (standingFree c s) (standingFree c t) := by
  have key : keyQueued c t = keyQueued c s := by rw [keyQueued, keyQueued, State.ownKey, State.ownKey, h.loader, h.queue]
  unfold standingFree
  rw [h.kind, key, h.burner, h.flags]
  split
  · exact h.after_raiseSparkFree
  · exact h

theorem after_clearLockout (h : sameSlot c s t) : sameSlot c (clearLockout c s) (clearLockout c t) := by
  unfold clearLockout
  rw [h.lockedOut, h.burner]
  split
  · exact (h.after_setGas _).after_standingFree
  · exact h

theorem after_stopChannel (h : sameSlot c s t) : sameSlot c (stopChannel c s) (stopChannel c t) := by
  unfold stopChannel
  rw [h.program]
  split
  · exact h
  · exact (h.after_updateProgram _).after_clearLockout

theorem after_stopOn (h : sameSlot c s t) : sameSlot c (stopOn c s) (stopOn c t) := by
  unfold stopOn
  rw [h.used, h.inRun]
  split
  · exact h.after_refuse
  · exact h.after_stopChannel

theorem after_startOn (h : sameSlot c s t) : sameSlot c (startOn c s) (startOn c t) := by
  unfold startOn
  rw [h.used, h.inRun, h.startAccepted, h.program]
  split
  · exact h.after_refuse
  · split
    · exact h.after_updateProgram _
    · exact h.after_refuse

theorem after_holdOn (h : sameSlot c s t) : sameSlot c (holdOn c s) (holdOn c t) := by
  unfold holdOn
  rw [h.used, h.inRun, h.program]
  split
  · exact h.after_refuse
  · split
    · exact h.after_updateProgram _
    · exact h

theorem after_resumeOn (h : sameSlot c s t) : sameSlot c (resumeOn c s) (resumeOn c t) := by
  unfold resumeOn
  rw [h.used, h.inRun, h.program]
  split
  · exact h.after_refuse
  · split
    · exact h.after_updateProgram _
    · exact h

end sameSlot

/-! ## Four channels, one after the other -/

/-- What a fold over the channels leaves of one channel is what its own step makes of it. -/
theorem foldl_channels_slot {f : State → Channel → State} (others : ∀ c d u, c ≠ d → sameSlot c u (f u d))
    (own : ∀ c u v, sameSlot c u v → sameSlot c (f u c) (f v c)) (c : Channel) (s : State) :
    sameSlot c (f s c) (allChannels.foldl f s) := by
  simp only [allChannels, List.foldl_cons, List.foldl_nil]
  have skip : ∀ {d : Channel} {u v : State}, c ≠ d → sameSlot c u v → sameSlot c u (f v d) :=
    fun other h => h.trans (others c _ _ other)
  have start := sameSlot.refl c s
  have once : ∀ d : Channel, d = 0 ∨ d = 1 ∨ d = 2 ∨ d = 3 := by decide
  obtain rfl | rfl | rfl | rfl := once c
  · exact skip (by decide) (skip (by decide) (skip (by decide) (own _ _ _ start)))
  · exact skip (by decide) (skip (by decide) (own _ _ _ (skip (by decide) start)))
  · exact skip (by decide) (own _ _ _ (skip (by decide) (skip (by decide) start)))
  · exact own _ _ _ (skip (by decide) (skip (by decide) (skip (by decide) start)))

/-- A masked command leaves of a channel what it makes of that channel, or the channel as it was where it is not named. -/
theorem onNamed_slot {g : Channel → State → State} (others : ∀ c d u, c ≠ d → sameSlot c u (g d u))
    (own : ∀ c u v, sameSlot c u v → sameSlot c (g c u) (g c v)) (body : List Byte) (c : Channel) (s : State) :
    sameSlot c (if maskNames body c then g c s else s) (onNamed body g s) := by
  refine foldl_channels_slot (f := fun t c => if maskNames body c then g c t else t) (fun c d u other => ?_) (fun c u v same => ?_) c s
  · split
    · exact others c d u other
    · exact .refl c u
  · split
    · exact own c u v same
    · exact same

theorem stopAll_slot (c : Channel) (s : State) : sameSlot c (if s.used c then stopChannel c s else s) (stopAll s) := by
  refine foldl_channels_slot (f := fun t c => if t.used c then stopChannel c t else t) (fun c d u other => ?_) (fun c u v same => ?_) c s
  · split
    · exact stopChannel_other u other
    · exact .refl c u
  · rw [same.used]
    split
    · exact same.after_stopChannel
    · exact same

/-! ## The reports behind -/

/-- The reports of a channel go by its part of the node alone. -/
theorem sameSlot.after_noteReports {c : Channel} {u v : State} (h : sameSlot c u v) (s : State) :
    sameSlot c (noteReports s u) (noteReports s v) where
  program := by simpa using h.program
  levels := by simpa using h.levels
  driver := by simpa using h.driver
  burner := by simpa using h.burner
  outstanding := by simpa using h.outstanding
  queue := by simpa using h.queue
  flags k := by
    by_cases state : k = .state
    · rw [state, flagOf_noteReports_state, flagOf_noteReports_state, h.reported, h.flags]
    · rw [flagOf_noteReports_other _ _ k c state, flagOf_noteReports_other _ _ k c state, h.flags]
  loader := by simpa using h.loader
  pins := by simpa using h.pins

theorem sameSlot.asked {c : Channel} {s t : State} (h : sameSlot c s t) (k : ChannelRequest) :
    t.asked (.ofChannel k c) = s.asked (.ofChannel k c) := by
  rw [State.asked, State.asked, h.flags]

/-- The flags of all channels. -/
def channelFlag (r : Request) : Prop := ∃ k c, r = .ofChannel k c

/-- Which flags differ is seen channel by channel where only flags of channels do. -/
theorem onlyFlags.of_channels {changed : Request → Prop} {x y : Transmitter} (h : onlyFlags channelFlag x y)
    (each : ∀ k c, ¬ changed (.ofChannel k c) → flagOf y (.ofChannel k c) = flagOf x (.ofChannel k c)) : onlyFlags changed x y := by
  refine h.of_flags fun r unchanged => ?_
  by_cases channel : channelFlag r
  · obtain ⟨k, c, rfl⟩ := channel
    exact each k c unchanged
  · exact h.flag channel

theorem noteReports_channels (s u : State) : onlyFlags channelFlag u.tx (noteReports s u).tx :=
  (noteReports_only s u).mono fun _ ⟨c, hr, _⟩ => ⟨.state, c, hr⟩

theorem onNamed_channels {g : Channel → State → State} (one : ∀ c u, onlyFlags channelFlag u.tx (g c u).tx) (body : List Byte)
    (s : State) : onlyFlags channelFlag s.tx (onNamed body g s).tx :=
  onNamed_keeps (P := fun u => onlyFlags channelFlag s.tx u.tx) body g (fun c u h => h.trans (one c u)) s (.refl _ _)

theorem stopChannel_channels (c : Channel) (u : State) : onlyFlags channelFlag u.tx (stopChannel c u).tx :=
  (stopChannel_only c u).mono fun _ h => ⟨_, _, h⟩

theorem stopAll_channels (s : State) : onlyFlags channelFlag s.tx (stopAll s).tx :=
  stopAll_keeps (P := fun u => onlyFlags channelFlag s.tx u.tx) (fun c u h => h.trans (stopChannel_channels c u)) s (.refl _ _)

end Sys2Proof.Machine
end

section
/-!
PROOF. START, HOLD and RESUME (R29 to R31): what each makes of one channel, and of the channels its mask names.
-/

namespace Sys2Proof.Machine

/-! ## One channel -/

/-- A record's update on one channel, with its report. -/
theorem updateProgram_reported (c : Channel) (p : Program) (s : State) :
    (noteReports s (updateProgram c p s)).programs[c] = p ∧
    (noteReports s (updateProgram c p s)).handovers[c] = handedOn s.programs[c] p s.handovers[c] ∧
    (∀ k, k ≠ .state → flagOf (noteReports s (updateProgram c p s)).tx (.ofChannel k c) = flagOf s.tx (.ofChannel k c)) ∧
    (p.state ≠ s.programs[c].state → (noteReports s (updateProgram c p s)).asked (.ofChannel .state c) = true) := by
  refine ⟨by simp, ?_, fun k other => ?_, fun changes => ?_⟩
  · rw [(noteReports_frame _ _).2.2.1, updateProgram_handedOn, getElem_set_same]
  · rw [flagOf_noteReports_other _ _ k c other]
    simp
  · refine asked_noteReports fun same => changes ?_
    exact ((reportedOf_of_program (updateProgram_programs c p s) (by simp) (by simp) (by simp)).mp same).1

/-- A refusal on one channel, with its report. -/
theorem refuse_reported (c : Channel) (s : State) :
    (noteReports s (refuse c s)).programs[c] = refusedRecord s.programs[c] ∧
    (noteReports s (refuse c s)).handovers[c] = handedOn s.programs[c] (refusedRecord s.programs[c]) s.handovers[c] ∧
    (∀ k, k ≠ .state → flagOf (noteReports s (refuse c s)).tx (.ofChannel k c) = flagOf s.tx (.ofChannel k c)) ∧
    (noteReports s (refuse c s)).asked (.ofChannel .state c) = true := by
  obtain ⟨-, record, asked, only⟩ := refuse_spec c s
  rw [noteReports_refuse]
  have level : handedOn s.programs[c] (refusedRecord s.programs[c]) s.handovers[c] = s.handovers[c] := if_pos rfl
  refine ⟨record, ?_, fun k other => only.flag (by simpa using other), asked⟩
  rw [level, (refuse_frame c s).2.1]

theorem refusedRecord_ne (p : Program) : refusedRecord p ≠ p := by
  intro same
  have mark : p.refusalMark + 1 = p.refusalMark := congrArg Program.refusalMark same
  have := congrArg (· - p.refusalMark) mark
  simp at this

/-! ## The channels that a mask names -/

section
variable {g : Channel → State → State} {f : RxFrame} {s : State}

theorem takeMasked_eq (own : targetOf f.body = s.loader.options.address.val) :
    takeMasked g f s = noteReports s (onNamed f.body g s) :=
  if_pos ((targetsNode_iff f s).mpr own)

/-- What a masked command leaves of a channel is what it makes of that channel alone, with its report. -/
theorem takeMasked_slot (others : ∀ c d u, c ≠ d → sameSlot c u (g d u))
    (reads : ∀ c u v, sameSlot c u v → sameSlot c (g c u) (g c v)) (own : targetOf f.body = s.loader.options.address.val)
    (c : Channel) : sameSlot c (if maskNames f.body c then noteReports s (g c s) else s) (takeMasked g f s) := by
  have slot := (onNamed_slot others reads f.body c s).after_noteReports s
  rw [takeMasked_eq own]
  by_cases named : maskNames f.body c = true
  · rwa [if_pos named] at slot ⊢
  · rw [if_neg named, noteReports_self] at slot
    rwa [if_neg named]

theorem takeMasked_channels (one : ∀ c u, onlyFlags channelFlag u.tx (g c u).tx) (own : targetOf f.body = s.loader.options.address.val) :
    onlyFlags channelFlag s.tx (takeMasked g f s).tx := by
  rw [takeMasked_eq own]
  exact (onNamed_channels one f.body s).trans (noteReports_channels _ _)

/-- START, HOLD and RESUME touch the records, the levels on their way and the flags. -/
theorem takeMasked_programs (command : g = startOn ∨ g = holdOn ∨ g = resumeOn) (f : RxFrame) (s : State) :
    takeMasked g f s = { s with
      programs := (takeMasked g f s).programs, handovers := (takeMasked g f s).handovers, tx := (takeMasked g f s).tx } := by
  have kept : (takeMasked g f s).gas = s.gas ∧ (takeMasked g f s).arbiter = s.arbiter := by
    unfold takeMasked
    split
    · simp only [reporting, noteReports_frame]
      refine onNamed_keeps (P := fun u => u.gas = s.gas ∧ u.arbiter = s.arbiter) f.body g (fun c u h => ?_) s ⟨rfl, rfl⟩
      obtain rfl | rfl | rfl := command <;> simpa using h
    · exact ⟨rfl, rfl⟩
  obtain ⟨gas, arbiter⟩ := kept
  have frame := takeMasked_frame g f s (by tauto)
  rw [State.eq_iff]
  simp [frame, gas, arbiter]

/-- How a masked command that is no STOP acts on the node and on each channel. -/
theorem exec_masked {k : NoticeKind} {i : Instr} {rest : List RxFrame} (command : g = startOn ∨ g = holdOn ∨ g = resumeOn)
    (arrives : arrival i = some (deliver k (takeMasked g))) (others : ∀ c d u, c ≠ d → sameSlot c u (g d u))
    (reads : ∀ c u v, sameSlot c u v → sameSlot c (g c u) (g c v)) (one : ∀ c u, onlyFlags (· = .ofChannel .state c) u.tx (g c u).tx)
    (delivers : s.delivers k f rest) (own : targetOf f.body = s.loader.options.address.val) : ∃ t, exec i s = .next t ∧
      t = { s.popped rest with programs := t.programs, handovers := t.handovers, tx := t.tx } ∧
      onlyFlags channelFlag s.tx t.tx ∧
      ∀ c, sameSlot c (if maskNames f.body c then noteReports (s.popped rest) (g c (s.popped rest)) else s.popped rest) t := by
  have own' : targetOf f.body = (s.popped rest).loader.options.address.val := own
  have channels := takeMasked_channels (fun c u => (one c u).mono fun _ h => ⟨_, _, h⟩) own'
  exact ⟨takeMasked g f (s.popped rest), exec_delivery arrives delivers, takeMasked_programs command f (s.popped rest),
    channels.after rfl, takeMasked_slot others reads own'⟩

end

/-! ## START (R29) -/

theorem stagesDefined_iff (p : Program) :
    stagesDefined p = true ↔ ∀ k : Fin 6, k.val < p.stageCount → p.stages[k].isSome = true := by
  simp only [stagesDefined, List.all_eq_true, List.mem_take_iff_getElem]
  constructor
  · intro defined k below
    exact defined _ ⟨k.val, by simpa using below, by simp⟩
  · rintro defined x ⟨i, below, rfl⟩
    have bounds : i < p.stageCount ∧ i < 6 := by simpa using below
    simpa using defined ⟨i, bounds.2⟩ bounds.1

theorem lockedOut_iff (c : Channel) (s : State) : lockedOut c s = true ↔ s.kind c = .gas ∧ s.gas[c].heat = .lockout := by
  simp [lockedOut]

theorem startAccepted_iff (c : Channel) (s : State) : startAccepted c s = true ↔
    (s.programs[c].state = .ready ∨ s.programs[c].state = .ended) ∧
    (∀ k : Fin 6, k.val < s.programs[c].stageCount → s.programs[c].stages[k].isSome = true) ∧ s.pins.halt = false ∧
    ¬ (s.kind c = .gas ∧ s.gas[c].heat = .lockout) := by
  rw [← stagesDefined_iff, ← lockedOut_iff]
  simp only [startAccepted, Bool.and_eq_true, Bool.or_eq_true, beq_iff_eq, Bool.not_eq_true', Bool.not_eq_true, and_assoc]

theorem startOn_of_accepted {c : Channel} {s : State} (used : s.used c = true) (run : s.inRun = true)
    (accepted : startAccepted c s = true) : startOn c s = updateProgram c (startedProgram s.programs[c]) s := by
  simp [startOn, used, run, accepted]

theorem startOn_of_refused {c : Channel} {s : State}
    (refused : ¬ (s.used c = true ∧ s.inRun = true ∧ startAccepted c s = true)) : startOn c s = refuse c s := by
  unfold startOn
  split
  · rfl
  next taken =>
    simp only [Bool.or_eq_true, Bool.not_eq_true', not_or, Bool.not_eq_false] at taken
    exact if_neg fun accepted => refused ⟨taken.1, taken.2, accepted⟩

section
variable {c : Channel} {s t : State}

/-- A refusal on one channel, as it is seen after the other channels. -/
theorem sameSlot.of_refuse (slot : sameSlot c (noteReports s (refuse c s)) t) :
    t.programs[c] = refusedRecord s.programs[c] ∧ t.handovers[c] = handedOn s.programs[c] t.programs[c] s.handovers[c] ∧
    (∀ k, k ≠ .state → flagOf t.tx (.ofChannel k c) = flagOf s.tx (.ofChannel k c)) ∧ t.asked (.ofChannel .state c) = true := by
  obtain ⟨record, levels, others, asked⟩ := refuse_reported c s
  rw [slot.program, slot.levels, slot.asked, record]
  exact ⟨rfl, levels, fun k other => (slot.flags k).trans (others k other), asked⟩

/-- An update of one channel's record, as it is seen after the other channels. -/
theorem sameSlot.of_updateProgram {p : Program} (slot : sameSlot c (noteReports s (updateProgram c p s)) t) :
    t.programs[c] = p ∧ t.handovers[c] = handedOn s.programs[c] t.programs[c] s.handovers[c] ∧
    (∀ k, k ≠ .state → flagOf t.tx (.ofChannel k c) = flagOf s.tx (.ofChannel k c)) ∧
    (p.state ≠ s.programs[c].state → t.asked (.ofChannel .state c) = true) := by
  obtain ⟨record, levels, others, asked⟩ := updateProgram_reported c p s
  rw [slot.program, slot.levels, slot.asked, record]
  exact ⟨rfl, levels, fun k other => (slot.flags k).trans (others k other), asked⟩

/-- A channel that no command has touched. -/
theorem sameSlot.unchanged (slot : sameSlot c s t) :
    t.programs[c] = s.programs[c] ∧ t.handovers[c] = handedOn s.programs[c] t.programs[c] s.handovers[c] := by
  rw [slot.program, slot.levels, handedOn_self]
  exact ⟨rfl, rfl⟩

theorem startOn_reported (slot : sameSlot c (noteReports s (startOn c s)) t) :
    t.handovers[c] = handedOn s.programs[c] t.programs[c] s.handovers[c] ∧
    (∀ k, k ≠ .state → flagOf t.tx (.ofChannel k c) = flagOf s.tx (.ofChannel k c)) ∧ t.asked (.ofChannel .state c) = true ∧
    (¬ (s.used c = true ∧ s.inRun = true ∧ startAccepted c s = true) → t.programs[c] = refusedRecord s.programs[c]) ∧
    (s.used c = true → s.inRun = true → startAccepted c s = true → t.programs[c] = startedProgram s.programs[c]) := by
  by_cases ok : s.used c = true ∧ s.inRun = true ∧ startAccepted c s = true
  · obtain ⟨used, run, accepted⟩ := ok
    obtain ⟨state, -⟩ := (startAccepted_iff c s).mp accepted
    rw [startOn_of_accepted used run accepted] at slot
    obtain ⟨record, levels, others, asked⟩ := slot.of_updateProgram
    have changes : (startedProgram s.programs[c]).state ≠ s.programs[c].state := by
      rcases state with h | h <;> rw [h] <;> simp [startedProgram]
    exact ⟨levels, others, asked changes, fun refused => absurd ⟨used, run, accepted⟩ refused, fun _ _ _ => record⟩
  · rw [startOn_of_refused ok] at slot
    obtain ⟨record, levels, others, asked⟩ := slot.of_refuse
    exact ⟨levels, others, asked, fun _ => record, fun used run accepted => absurd ⟨used, run, accepted⟩ ok⟩

end

/-- Settles O23: a START on a channel starts its program or is refused, and its level is handed. -/
theorem startRunsAProgramFromStageZero : Obligations.StartRunsAProgramFromStageZero := by
  refine ⟨fun p => ⟨fun i index => currentStage_eq index, fun st running current => ?_, effectiveLevel_of_not_running⟩,
    fun _ _ => rfl, fun f rest s delivers own => ?_⟩
  · unfold effectiveLevel
    rw [running, current]
  obtain ⟨t, taken, frame, channels, slot⟩ := exec_masked (i := .start) (.inl rfl) rfl (fun _ _ u other => startOn_other u other)
    (fun _ _ _ h => h.after_startOn) startOn_only delivers own
  have unnamed : ∀ c, maskNames f.body c = false → sameSlot c (s.popped rest) t := fun c named => by simpa [named] using slot c
  have started := fun c (named : maskNames f.body c = true) =>
    startOn_reported (c := c) (s := s.popped rest) (t := t) (by simpa [named] using slot c)
  refine ⟨t, taken, frame, channels.of_channels fun k c unchanged => ?flags, fun c => ?_⟩
  case flags =>
    cases mask : maskNames f.body c
    · exact (unnamed c mask).flags k
    · obtain ⟨-, others, -⟩ := started c mask
      exact others k fun state => unchanged ⟨c, mask, by rw [state]⟩
  have accepted := startAccepted_iff c (s.popped rest)
  cases mask : maskNames f.body c
  · obtain ⟨record, levels⟩ := (unnamed c mask).unchanged
    exact ⟨levels, fun _ => record, by simp, by simp⟩
  · obtain ⟨levels, -, asked, refused, taken⟩ := started c mask
    refine ⟨levels, by simp, fun _ bad => ⟨refused ?_, asked⟩, fun _ ok => ⟨asked, ?_⟩⟩
    · rintro ⟨used, run, ok⟩
      exact bad ⟨used, run, accepted.mp ok⟩
    · obtain ⟨used, run, ok⟩ := ok
      exact taken used run (accepted.mpr ok)

/-! ## HOLD and RESUME (R30, R31) -/

section
variable {c : Channel} {s t : State}

theorem holdOn_of_refused (refused : s.used c = false ∨ s.inRun = false) : holdOn c s = refuse c s :=
  if_pos (by simpa using refused)

theorem resumeOn_of_refused (refused : s.used c = false ∨ s.inRun = false) : resumeOn c s = refuse c s :=
  if_pos (by simpa using refused)

theorem holdOn_of_taken (used : s.used c = true) (run : s.inRun = true) : holdOn c s =
    if s.programs[c].state = .running then updateProgram c { s.programs[c] with state := .held } s else s :=
  if_neg (by simp [used, run])

theorem resumeOn_of_taken (used : s.used c = true) (run : s.inRun = true) : resumeOn c s =
    if s.programs[c].state = .held then updateProgram c { s.programs[c] with state := .running } s else s :=
  if_neg (by simp [used, run])

/-- What a HOLD or a RESUME says of one channel: from program state `x` to `y`, every other left. -/
def movesState (x y : ProgramState) (c : Channel) (s t : State) : Prop :=
  t.handovers[c] = handedOn s.programs[c] t.programs[c] s.handovers[c] ∧
  (∀ k, k ≠ .state ∨ t.programs[c] = s.programs[c] → flagOf t.tx (.ofChannel k c) = flagOf s.tx (.ofChannel k c)) ∧
  (t.programs[c] ≠ s.programs[c] → t.asked (.ofChannel .state c) = true) ∧
  (s.used c = false ∨ s.inRun = false → t.programs[c] = refusedRecord s.programs[c]) ∧
  (s.used c = true → s.inRun = true →
    t.programs[c] = if s.programs[c].state = x then { s.programs[c] with state := y } else s.programs[c])

theorem movesState_of_refuse {x y : ProgramState} (refused : s.used c = false ∨ s.inRun = false)
    (slot : sameSlot c (noteReports s (refuse c s)) t) : movesState x y c s t := by
  obtain ⟨record, levels, others, asked⟩ := slot.of_refuse
  refine ⟨levels, fun k kept => others k (kept.resolve_right ?_), fun _ => asked, fun _ => record, fun used run => ?_⟩
  · rw [record]
    exact refusedRecord_ne _
  · rcases refused with h | h <;> simp_all

theorem movesState_of_taken {x y : ProgramState} (differ : y ≠ x) (used : s.used c = true) (run : s.inRun = true)
    (slot : sameSlot c (noteReports s
      (if s.programs[c].state = x then updateProgram c { s.programs[c] with state := y } s else s)) t) : movesState x y c s t := by
  have notRefused : ∀ {q : Prop}, s.used c = false ∨ s.inRun = false → q := fun h => by rcases h with h | h <;> simp_all
  split at slot
  next at_x =>
    obtain ⟨record, levels, others, asked⟩ := slot.of_updateProgram
    have changes : y ≠ s.programs[c].state := at_x ▸ differ
    refine ⟨levels, fun k kept => others k (kept.resolve_right fun same => changes ?_), fun _ => asked changes, notRefused, fun _ _ => ?_⟩
    · rw [record] at same
      exact congrArg Program.state same
    · rw [record, if_pos at_x]
  next other =>
    rw [noteReports_self] at slot
    obtain ⟨record, levels⟩ := slot.unchanged
    exact ⟨levels, fun k _ => slot.flags k, fun changed => absurd record changed, notRefused, fun _ _ => by rw [record, if_neg other]⟩

theorem movesState_holdOn (slot : sameSlot c (noteReports s (holdOn c s)) t) : movesState .running .held c s t := by
  by_cases refused : s.used c = false ∨ s.inRun = false
  · exact movesState_of_refuse refused (holdOn_of_refused refused ▸ slot)
  · simp only [not_or, Bool.not_eq_false] at refused
    rw [holdOn_of_taken refused.1 refused.2] at slot
    exact movesState_of_taken (by decide) refused.1 refused.2 slot

theorem movesState_resumeOn (slot : sameSlot c (noteReports s (resumeOn c s)) t) : movesState .held .running c s t := by
  by_cases refused : s.used c = false ∨ s.inRun = false
  · exact movesState_of_refuse refused (resumeOn_of_refused refused ▸ slot)
  · simp only [not_or, Bool.not_eq_false] at refused
    rw [resumeOn_of_taken refused.1 refused.2] at slot
    exact movesState_of_taken (by decide) refused.1 refused.2 slot

end

/-- A masked command that moves program states, on the channels its mask names. -/
theorem masked_movesState {x y : ProgramState} {g : Channel → State → State} {body : List Byte} {s t : State}
    (one : ∀ {c t}, sameSlot c (noteReports s (g c s)) t → movesState x y c s t) (channels : onlyFlags channelFlag s.tx t.tx)
    (slot : ∀ c, sameSlot c (if maskNames body c then noteReports s (g c s) else s) t) :
    onlyFlags (fun r => ∃ c, t.programs[c] ≠ s.programs[c] ∧ r = .ofChannel .state c) s.tx t.tx ∧ ∀ c : Channel,
      t.handovers[c] = handedOn s.programs[c] t.programs[c] s.handovers[c] ∧
      (t.programs[c] ≠ s.programs[c] → t.asked (.ofChannel .state c) = true) ∧
      (maskNames body c = false → t.programs[c] = s.programs[c]) ∧
      (maskNames body c = true → s.used c = false ∨ s.inRun = false → t.programs[c] = refusedRecord s.programs[c]) ∧
      (maskNames body c = true → s.used c = true → s.inRun = true →
        t.programs[c] = if s.programs[c].state = x then { s.programs[c] with state := y } else s.programs[c]) := by
  have unnamed : ∀ c, maskNames body c = false → sameSlot c s t := fun c mask => by simpa [mask] using slot c
  have moved : ∀ c, maskNames body c = true → movesState x y c s t := fun c mask => one (by simpa [mask] using slot c)
  refine ⟨channels.of_channels fun k c unchanged => ?_, fun c => ?_⟩
  · cases mask : maskNames body c
    · exact (unnamed c mask).flags k
    · obtain ⟨-, flags, -⟩ := moved c mask
      refine flags k (or_iff_not_imp_left.mpr fun state => ?_)
      by_contra changes
      exact unchanged ⟨c, changes, by rw [not_not.mp state]⟩
  · cases mask : maskNames body c
    · obtain ⟨record, levels⟩ := (unnamed c mask).unchanged
      exact ⟨levels, fun changed => absurd record changed, fun _ => record, by simp, by simp⟩
    · obtain ⟨levels, -, asked, refused, taken⟩ := moved c mask
      exact ⟨levels, asked, by simp, fun _ => refused, fun _ => taken⟩

/-- Settles O24: HOLD moves RUNNING to HELD, RESUME HELD to RUNNING. -/
theorem holdAndResumeKeepTheCounts : Obligations.HoldAndResumeKeepTheCounts := by
  intro f rest s own
  refine ⟨fun delivers => ?hold, fun delivers => ?resume⟩
  case hold =>
    obtain ⟨t, taken, frame, channels, slot⟩ := exec_masked (i := .hold) (.inr (.inl rfl)) rfl (fun _ _ u other => holdOn_other u other)
      (fun _ _ _ h => h.after_holdOn) holdOn_only delivers own
    exact ⟨t, taken, frame, masked_movesState (s := s.popped rest) movesState_holdOn channels slot⟩
  case resume =>
    obtain ⟨t, taken, frame, channels, slot⟩ := exec_masked (i := .resume) (.inr (.inr rfl)) rfl
      (fun _ _ u other => resumeOn_other u other) (fun _ _ _ h => h.after_resumeOn) resumeOn_only delivers own
    exact ⟨t, taken, frame, masked_movesState (s := s.popped rest) movesState_resumeOn channels slot⟩

end Sys2Proof.Machine
end

section
/-!
PROOF. STOP, HALT-ALL and the halt input (R32, R33, R109, R112): what a stop makes of one channel, and of the channels it reaches.
-/

namespace Sys2Proof.Machine

/-! ## A stop on one channel -/

/-- A stop on channel `c` clears a lockout (R109). -/
def clearsLockout (c : Channel) (s : State) : Prop :=
  s.kind c = .gas ∧ s.gas[c].heat = .lockout ∧ s.programs[c].state ≠ .empty

theorem stoppedProgram_eq {p : Program} (made : p.state ≠ .empty) :
    stoppedProgram p = { p with state := .ended, alert := false } := by
  unfold stoppedProgram
  cases state : p.state
  case empty => exact absurd state made
  all_goals rfl

theorem stopRecord_of_made {p : Program} (made : p.state ≠ .empty) : stopRecord p = { p with state := .ended, alert := false } :=
  if_neg made

theorem stopChannel_of_empty {c : Channel} {s : State} (empty : s.programs[c].state = .empty) : stopChannel c s = s := if_pos empty

/-- A stop that clears no lockout is a change of the record. -/
theorem stopChannel_of_kept {c : Channel} {s : State} (made : s.programs[c].state ≠ .empty) (kept : ¬ clearsLockout c s) :
    stopChannel c s = updateProgram c (stopRecord s.programs[c]) s := by
  have locked : lockedOut c (updateProgram c (stopRecord s.programs[c]) s) = false := by
    rw [Bool.eq_false_iff, ne_eq, lockedOut_iff]
    rintro ⟨kind, heat⟩
    exact kept ⟨by simpa [State.kind] using kind, by simpa using heat, made⟩
  rw [stopChannel, if_neg made, stoppedProgram_eq made, ← stopRecord_of_made made, clearLockout, locked]
  exact if_neg (by decide)

theorem stopChannel_of_clears {c : Channel} {s : State} (clears : clearsLockout c s) : stopChannel c s =
    standingFree c ((updateProgram c (stopRecord s.programs[c]) s).setGas c
      { s.gas[c] with heat := .off, attempts := 0, stray := false }) := by
  obtain ⟨kind, heat, made⟩ := clears
  have locked : lockedOut c (updateProgram c (stopRecord s.programs[c]) s) = true :=
    (lockedOut_iff _ _).mpr ⟨by simpa [State.kind] using kind, by simpa using heat⟩
  rw [stopChannel, if_neg made, stoppedProgram_eq made, ← stopRecord_of_made made, clearLockout, if_pos locked]
  simp

/-- The standing rule asks for the removal of a queued key that its channel does not want (R112). -/
theorem standingFree_asks {c : Channel} {s : State} (gas : s.kind c = .gas) (queued : keyQueued c s = true)
    (unwanted : wantsSpark s.gas[c].heat = false) : (standingFree c s).asked (.ofChannel .sparkFree c) = true := by
  unfold standingFree
  split
  next => simp [State.asked, flagOf_raiseSparkFree]
  next standing =>
    by_contra unset
    exact standing ⟨gas, queued, unwanted, Bool.not_eq_true _ ▸ unset⟩

/-- The program and the levels that a stop leaves on its channel. -/
theorem stopChannel_program (c : Channel) (s : State) : (stopChannel c s).programs[c] = stopRecord s.programs[c] ∧
    (stopChannel c s).handovers[c] = handedOn s.programs[c] (stopRecord s.programs[c]) s.handovers[c] := by
  by_cases empty : s.programs[c].state = .empty
  · have same : stopRecord s.programs[c] = s.programs[c] := if_pos empty
    rw [stopChannel_of_empty empty, same, handedOn_self]
    exact ⟨rfl, rfl⟩
  by_cases clears : clearsLockout c s
  · rw [stopChannel_of_clears clears]
    simp [updateProgram_handedOn]
  · rw [stopChannel_of_kept empty clears]
    simp [updateProgram_handedOn]

/-- Where no lockout is cleared a stop leaves the burner, the standing indication and the flags of its channel. -/
theorem stopChannel_keeps_burner {c : Channel} {s : State} (kept : ¬ clearsLockout c s) :
    (stopChannel c s).gas = s.gas ∧ (stopChannel c s).arbiter = s.arbiter ∧ (stopChannel c s).tx = s.tx := by
  by_cases empty : s.programs[c].state = .empty
  · rw [stopChannel_of_empty empty]
    exact ⟨rfl, rfl, rfl⟩
  · rw [stopChannel_of_kept empty kept]
    simp

/-- Where one is cleared the burner goes to OFF, and a key still queued is to be removed. -/
theorem stopChannel_clears_burner {c : Channel} {s : State} (clears : clearsLockout c s) :
    (stopChannel c s).gas[c] = { s.gas[c] with heat := .off, attempts := 0, stray := false } ∧
    (s.ownKey c ∈ s.arbiter.queue → (stopChannel c s).asked (.ofChannel .sparkFree c) = true) := by
  rw [stopChannel_of_clears clears]
  refine ⟨by simp, fun queued => standingFree_asks ?_ ?_ ?_⟩
  · simpa [State.kind] using clears.1
  · simpa [keyQueued, State.ownKey] using queued
  · simp [wantsSpark]

/-- A stop that shows: the record has changed, or a lockout is cleared. -/
theorem reportedOf_stopChannel (c : Channel) (s : State) : reportedOf s c = reportedOf (stopChannel c s) c ↔
    stopRecord s.programs[c] = s.programs[c] ∧ ¬ clearsLockout c s := by
  obtain ⟨record, -⟩ := stopChannel_program c s
  rw [reportedOf_eq_iff (by simp), record]
  constructor
  · rintro ⟨state, -, -, alert, -, -, gas⟩
    constructor
    · by_cases empty : s.programs[c].state = .empty
      · exact if_pos empty
      · rw [stopRecord_of_made empty] at state alert ⊢
        rw [Program.mk.injEq]
        simp_all
    · intro clears
      obtain ⟨burner, -⟩ := stopChannel_clears_burner clears
      have heat := (gas clears.1).1
      rw [burner, clears.2.1] at heat
      cases heat
  · rintro ⟨same, kept⟩
    obtain ⟨gas, -, -⟩ := stopChannel_keeps_burner kept
    rw [same, gas]
    simp

/-- What a stop says of one channel, as it is seen after the other channels. -/
def stopsChannel (c : Channel) (s t : State) : Prop :=
  t.handovers[c] = handedOn s.programs[c] t.programs[c] s.handovers[c] ∧ t.programs[c] = stopRecord s.programs[c] ∧
  (t.programs[c] ≠ s.programs[c] ∨ clearsLockout c s → t.asked (.ofChannel .state c) = true) ∧
  (t.programs[c] = s.programs[c] → ¬ clearsLockout c s →
    flagOf t.tx (.ofChannel .state c) = flagOf s.tx (.ofChannel .state c)) ∧
  (clearsLockout c s → t.gas[c] = { s.gas[c] with heat := .off, attempts := 0, stray := false } ∧
    (s.ownKey c ∈ s.arbiter.queue → t.asked (.ofChannel .sparkFree c) = true)) ∧
  (¬ clearsLockout c s → t.gas[c] = s.gas[c] ∧ t.arbiter.freeOutstanding[c] = s.arbiter.freeOutstanding[c]) ∧
  ∀ k, k ≠ .state → (k = .sparkFree → ¬ clearsLockout c s) → flagOf t.tx (.ofChannel k c) = flagOf s.tx (.ofChannel k c)

theorem stopsChannel_of_slot {c : Channel} {s t : State} (slot : sameSlot c (noteReports s (stopChannel c s)) t) :
    stopsChannel c s t := by
  obtain ⟨record, levels⟩ := stopChannel_program c s
  have reported := reportedOf_stopChannel c s
  have program : t.programs[c] = stopRecord s.programs[c] := by rw [slot.program, ← record]; simp
  have burner : t.gas[c] = (stopChannel c s).gas[c] := by rw [slot.burner]; simp
  have other : ∀ k, k ≠ .state → flagOf t.tx (.ofChannel k c) = flagOf (stopChannel c s).tx (.ofChannel k c) := fun k h =>
    (slot.flags k).trans (flagOf_noteReports_other _ _ k c h)
  refine ⟨?_, program, fun changes => ?_, fun same kept => ?_, fun clears => ?_, fun kept => ?_, fun k state free => ?_⟩
  · rw [slot.levels, program, ← levels]
    simp
  · rw [slot.asked]
    refine asked_noteReports fun shown => ?_
    obtain ⟨same, kept⟩ := reported.mp shown
    exact changes.elim (fun h => h (program.trans same)) kept
  · rw [program] at same
    obtain ⟨-, -, tx⟩ := stopChannel_keeps_burner kept
    rw [slot.flags, flagOf_noteReports_state, if_pos (reported.mpr ⟨same, kept⟩), tx]
  · obtain ⟨off, asked⟩ := stopChannel_clears_burner clears
    refine ⟨burner.trans off, fun queued => ?_⟩
    rw [State.asked, other _ (by decide)]
    exact asked queued
  · obtain ⟨gas, arbiter, -⟩ := stopChannel_keeps_burner kept
    refine ⟨by rw [burner, gas], ?_⟩
    rw [slot.outstanding]
    simp [arbiter]
  · rw [other k state]
    by_cases sparkFree : k = .sparkFree
    · rw [(stopChannel_keeps_burner (free sparkFree)).2.2]
    · exact (stopChannel_only c s).flag (by simpa using sparkFree)

end Sys2Proof.Machine
end

section
/-!
PROOF. STOP, HALT-ALL and the halt input on the channels they reach (R32, R33).
-/

namespace Sys2Proof.Machine

/-! ## What a stop touches -/

/-- Two Spark Arbiters agree but for the standing indications. -/
def sameQueue (x y : SparkArbiter) : Prop := y = { x with freeOutstanding := y.freeOutstanding }

theorem sameQueue.trans {x y z : SparkArbiter} (first : sameQueue x y) (second : sameQueue y z) : sameQueue x z := by
  rw [sameQueue] at first second ⊢
  rw [second, first]

theorem sameQueue.refl (x : SparkArbiter) : sameQueue x x := rfl

theorem standingFree_arbiter (c : Channel) (s : State) : sameQueue s.arbiter (standingFree c s).arbiter := by
  unfold standingFree
  split
  · simp [sameQueue, raiseSparkFree]
  · rfl

theorem stopChannel_arbiter (c : Channel) (s : State) : sameQueue s.arbiter (stopChannel c s).arbiter := by
  by_cases clears : clearsLockout c s
  · rw [stopChannel_of_clears clears]
    generalize ({ s.gas[c] with heat := .off, attempts := 0, stray := false } : GasSequencer) = g
    have first : ((updateProgram c (stopRecord s.programs[c]) s).setGas c g).arbiter = s.arbiter := by simp
    exact first ▸ standingFree_arbiter c _
  · rw [(stopChannel_keeps_burner clears).2.1]
    exact .refl _

theorem stopOn_arbiter (c : Channel) (s : State) : sameQueue s.arbiter (stopOn c s).arbiter := by
  unfold stopOn
  split
  · simp [sameQueue]
  · exact stopChannel_arbiter c s

theorem stopAll_arbiter (s : State) : sameQueue s.arbiter (stopAll s).arbiter :=
  stopAll_keeps (P := fun u => sameQueue s.arbiter u.arbiter) (fun c u h => h.trans (stopChannel_arbiter c u)) s (.refl _)

theorem stopOn_channels (c : Channel) (u : State) : onlyFlags channelFlag u.tx (stopOn c u).tx :=
  (stopOn_only c u).mono fun _ h => h.elim (fun h => ⟨_, _, h⟩) fun h => ⟨_, _, h⟩

/-- STOP on the named channels touches the records, the levels on their way, the burners, the standing indications and the flags. -/
theorem takeMasked_stopOn (f : RxFrame) (s : State) : takeMasked stopOn f s = { s with
    programs := (takeMasked stopOn f s).programs, handovers := (takeMasked stopOn f s).handovers, gas := (takeMasked stopOn f s).gas
    arbiter := { s.arbiter with freeOutstanding := (takeMasked stopOn f s).arbiter.freeOutstanding }
    tx := (takeMasked stopOn f s).tx } := by
  have arbiter : sameQueue s.arbiter (takeMasked stopOn f s).arbiter := by
    unfold takeMasked
    split
    · simp only [reporting, noteReports_frame]
      exact onNamed_keeps (P := fun u => sameQueue s.arbiter u.arbiter) f.body stopOn (fun c u h => h.trans (stopOn_arbiter c u)) s
        (.refl _)
    · exact .refl _
  obtain ⟨base, elements, plan, peers, receiver, dispatcher, counters, loader, pins, event, pending⟩ :=
    takeMasked_frame stopOn f s (by simp)
  rw [State.eq_iff]
  exact ⟨base, rfl, rfl, elements, rfl, plan, arbiter, peers, receiver, dispatcher, rfl, counters, loader, pins, event, pending⟩

/-! ## STOP (R32) -/

section
variable {c : Channel} {s t : State}

theorem stopOn_of_refused (refused : s.used c = false ∨ s.inRun = false) : stopOn c s = refuse c s :=
  if_pos (by simpa using refused)

theorem not_refused (used : s.used c = true) (run : s.inRun = true) : ¬ (s.used c = false ∨ s.inRun = false) := by
  simp [used, run]

theorem stopOn_of_taken (used : s.used c = true) (run : s.inRun = true) : stopOn c s = stopChannel c s :=
  if_neg (by simp [used, run])

end

/-- Settles O25: a STOP refuses or stops each channel it names, and leaves the others. -/
theorem stopEndsProgramsAndClearsLockout : Obligations.StopEndsProgramsAndClearsLockout := by
  intro f rest s delivers own clears
  have own' : targetOf f.body = (s.popped rest).loader.options.address.val := own
  have slot := takeMasked_slot (g := stopOn) (fun _ _ u other => stopOn_other u other) (fun _ _ _ h => h.after_stopOn) own'
  have channels := (takeMasked_channels (g := stopOn) stopOn_channels own').after (x := s.tx) rfl
  have frame := takeMasked_stopOn f (s.popped rest)
  generalize result : takeMasked stopOn f (s.popped rest) = t at slot channels frame
  have unnamed : ∀ c, maskNames f.body c = false → sameSlot c (s.popped rest) t := fun c mask => by simpa [mask] using slot c
  have named : ∀ c, maskNames f.body c = true → sameSlot c (noteReports (s.popped rest) (stopOn c (s.popped rest))) t := fun c mask => by
    simpa [mask] using slot c
  have refused : ∀ c, maskNames f.body c = true → s.used c = false ∨ s.inRun = false →
      sameSlot c (noteReports (s.popped rest) (refuse c (s.popped rest))) t := fun c mask out =>
    stopOn_of_refused (s := s.popped rest) out ▸ named c mask
  have stopped : ∀ c, maskNames f.body c = true → s.used c = true → s.inRun = true → stopsChannel c (s.popped rest) t := fun c mask used run =>
    stopsChannel_of_slot (stopOn_of_taken (s := s.popped rest) used run ▸ named c mask)
  have reached : ∀ c, maskNames f.body c = true → s.used c = true → s.inRun = true → (clears c ↔ clearsLockout c (s.popped rest)) :=
    fun c mask used run => ⟨fun ⟨_, _, _, h⟩ => h, fun h => ⟨mask, used, run, h⟩⟩
  refine ⟨t, (exec_delivery rfl delivers).trans (congrArg _ result), frame, channels.of_channels fun k c unchanged => ?flags, fun c => ?_⟩
  case flags =>
    cases mask : maskNames f.body c
    · exact (unnamed c mask).flags k
    have notState : k ≠ .state := fun state => unchanged ⟨c, mask, .inl (by rw [state])⟩
    by_cases out : s.used c = false ∨ s.inRun = false
    · obtain ⟨-, -, others, -⟩ := (refused c mask out).of_refuse
      exact others k notState
    · simp only [not_or, Bool.not_eq_false] at out
      obtain ⟨used, run⟩ := out
      obtain ⟨-, -, -, -, -, -, flags⟩ := stopped c mask used run
      exact flags k notState fun free clear => unchanged ⟨c, mask, .inr ⟨(reached c mask used run).mpr clear, by rw [free]⟩⟩
  cases mask : maskNames f.body c
  · obtain ⟨record, levels⟩ := (unnamed c mask).unchanged
    have none : ¬ clears c := fun h => by simp [clears, mask] at h
    exact ⟨levels, fun _ => record, by simp, by simp, fun h => absurd record (h.resolve_right none), fun _ _ => (unnamed c mask).flags _,
      fun h => absurd h none, fun _ => ⟨(unnamed c mask).burner, (unnamed c mask).outstanding⟩⟩
  by_cases out : s.used c = false ∨ s.inRun = false
  · obtain ⟨record, levels, -, asked⟩ := (refused c mask out).of_refuse
    have none : ¬ clears c := fun ⟨_, used, run, _⟩ => not_refused used run out
    have burner := (refused c mask out).burner
    have outstanding := (refused c mask out).outstanding
    simp only [noteReports_frame, refuse_frame] at burner outstanding
    refine ⟨levels, by simp, fun _ _ => record, fun ⟨_, used, run⟩ => absurd out (not_refused used run), fun _ => asked, fun same => ?_,
      fun h => absurd h none, fun _ => ⟨burner, outstanding⟩⟩
    exact absurd (record.symm.trans same) (refusedRecord_ne _)
  · simp only [not_or, Bool.not_eq_false] at out
    obtain ⟨used, run⟩ := out
    obtain ⟨levels, record, asked, kept, cleared, uncleared, -⟩ := stopped c mask used run
    rw [reached c mask used run]
    exact ⟨levels, by simp, fun _ h => absurd h (not_refused used run), fun _ => record, asked, kept, cleared, uncleared⟩

/-! ## HALT-ALL and the halt input (R33) -/

/-- What a halt says of one channel, used or not. -/
def haltsChannel (c : Channel) (s t : State) : Prop :=
  t.handovers[c] = handedOn s.programs[c] t.programs[c] s.handovers[c] ∧
  t.programs[c] = (if s.used c then stopRecord s.programs[c] else s.programs[c]) ∧
  (t.programs[c] ≠ s.programs[c] ∨ s.used c = true ∧ clearsLockout c s → t.asked (.ofChannel .state c) = true) ∧
  (t.programs[c] = s.programs[c] → ¬ (s.used c = true ∧ clearsLockout c s) →
    flagOf t.tx (.ofChannel .state c) = flagOf s.tx (.ofChannel .state c)) ∧
  (s.used c = true ∧ clearsLockout c s → t.gas[c] = { s.gas[c] with heat := .off, attempts := 0, stray := false } ∧
    (s.ownKey c ∈ s.arbiter.queue → t.asked (.ofChannel .sparkFree c) = true)) ∧
  (¬ (s.used c = true ∧ clearsLockout c s) →
    t.gas[c] = s.gas[c] ∧ t.arbiter.freeOutstanding[c] = s.arbiter.freeOutstanding[c])

/-- A stop on every used channel, with its reports. -/
theorem stopAll_reported (s : State) :
    (∀ c, haltsChannel c s (noteReports s (stopAll s))) ∧
    onlyFlags (fun r => ∃ c, s.used c = true ∧
      (r = .ofChannel .state c ∨ ((s.used c = true ∧ clearsLockout c s) ∧ r = .ofChannel .sparkFree c)))
      s.tx (noteReports s (stopAll s)).tx := by
  have slot := fun c => (stopAll_slot c s).after_noteReports s
  have channels := (stopAll_channels s).trans (noteReports_channels s _)
  generalize noteReports s (stopAll s) = t at slot channels
  have unused : ∀ c, s.used c = false → sameSlot c s t := fun c out => by simpa [out, noteReports_self] using slot c
  have stopped : ∀ c, s.used c = true → stopsChannel c s t := fun c used => stopsChannel_of_slot (by simpa [used] using slot c)
  refine ⟨fun c => ?_, channels.of_channels fun k c unchanged => ?_⟩
  · cases used : s.used c
    · obtain ⟨record, levels⟩ := (unused c used).unchanged
      rw [haltsChannel, used]
      exact ⟨levels, record, by simp [record], fun _ _ => (unused c used).flags _, by simp,
        fun _ => ⟨(unused c used).burner, (unused c used).outstanding⟩⟩
    · obtain ⟨levels, record, asked, kept, cleared, uncleared, -⟩ := stopped c used
      rw [haltsChannel, used]
      simp only [true_and, if_true]
      exact ⟨levels, record, asked, kept, cleared, uncleared⟩
  · cases used : s.used c
    · exact (unused c used).flags k
    · obtain ⟨-, -, -, -, -, -, flags⟩ := stopped c used
      exact flags k (fun state => unchanged ⟨c, used, .inl (by rw [state])⟩)
        fun free clear => unchanged ⟨c, used, .inr ⟨⟨used, clear⟩, by rw [free]⟩⟩

theorem stopAll_frame_reported (s : State) : noteReports s (stopAll s) = { s with
    programs := (noteReports s (stopAll s)).programs, handovers := (noteReports s (stopAll s)).handovers
    gas := (noteReports s (stopAll s)).gas
    arbiter := { s.arbiter with freeOutstanding := (noteReports s (stopAll s)).arbiter.freeOutstanding }
    tx := (noteReports s (stopAll s)).tx } := by
  have arbiter : sameQueue s.arbiter (noteReports s (stopAll s)).arbiter := by simpa using stopAll_arbiter s
  rw [State.eq_iff]
  exact ⟨by simp, rfl, rfl, by simp, rfl, by simp, arbiter, by simp, by simp, by simp, rfl, by simp, by simp, by simp, by simp, by simp⟩

theorem haltEffect_of_active {s : State} (active : s.active = true) : haltEffect s =
    if s.inRun then raiseFlag .haltAll (noteReports s (stopAll s)) else noteReports s (stopAll s) := by
  unfold haltEffect
  rw [active]
  rfl

theorem haltEffect_of_inactive {s : State} (idle : s.active = false) : haltEffect s = s := by
  have out : s.inRun = false := by
    simp only [State.active, State.inRun, Bool.and_eq_false_iff, Bool.or_eq_false_iff] at idle ⊢
    exact idle.imp id (·.2)
  unfold haltEffect
  rw [idle, out]
  rfl

/-- The node-wide flag says nothing of a channel. -/
theorem haltsChannel_raiseHalt {c : Channel} {s t : State} (h : haltsChannel c s t) : haltsChannel c s (raiseFlag .haltAll t) := by
  have flags : ∀ k, flagOf (raiseFlag .haltAll t).tx (.ofChannel k c) = flagOf t.tx (.ofChannel k c) := fun k => by
    rw [flagOf_raiseFlag, if_neg (by simp)]
  simpa only [haltsChannel, State.asked, raiseFlag_frame, flags] using h

/-- Settles O26: a HALT-ALL and the halt input's assertion stop every used channel. -/
theorem haltStopsEveryUsedChannel : Obligations.HaltStopsEveryUsedChannel := by
  intro f rest s clears stops reports
  refine ⟨fun delivers => ?haltAll, fun ready low active => ?asserted, fun ready low idle => ?ignored, fun ready high => ?again,
    fun ready => exec_arrival_of_ready (f := takeHaltRelease) rfl ready⟩
  case haltAll =>
    obtain ⟨halts, only⟩ := stopAll_reported (s.popped rest)
    have taken : exec .haltAll s = .next (reporting stopAll (s.popped rest)) :=
      exec_delivery (g := fun _ => reporting stopAll) rfl delivers
    exact ⟨noteReports (s.popped rest) (stopAll (s.popped rest)), taken, halts, stopAll_frame_reported (s.popped rest), only⟩
  case asserted =>
    have taken : exec .haltAssertion s = .next (haltEffect (s.setPins { s.pins with halt := true })) := by
      rw [exec_arrival_of_ready rfl ready, takeHalt, if_neg (by simp [low])]
    obtain ⟨halts, only⟩ := stopAll_reported (s.setPins { s.pins with halt := true })
    have frame := stopAll_frame_reported (s.setPins { s.pins with halt := true })
    have halt := only.flag (r := .haltAll) (by simp)
    have run : (s.setPins { s.pins with halt := true }).inRun = s.inRun := rfl
    rw [taken, haltEffect_of_active (by exact active), run]
    cases s.inRun
    · exact ⟨_, rfl, halts, frame, only.mono fun _ => .inl, halt⟩
    · have raises := raiseFlag_only .haltAll (noteReports (s.setPins { s.pins with halt := true })
        (stopAll (s.setPins { s.pins with halt := true })))
      refine ⟨_, rfl, fun c => haltsChannel_raiseHalt (halts c), ?_, (only.mono fun _ => .inl).trans (raises.mono fun _ => .inr), ?_⟩
      · rw [State.eq_iff] at frame ⊢
        simpa using frame
      · rw [if_pos rfl, flagOf_raiseFlag, if_pos rfl, halt]
        rfl
  case ignored =>
    rw [exec_arrival_of_ready rfl ready, takeHalt, if_neg (by simp [low]), haltEffect_of_inactive (by exact idle)]
    rfl
  case again =>
    rw [exec_arrival_of_ready rfl ready, takeHalt, if_pos high]

end Sys2Proof.Machine
end

section
/-!
PROOF. What is delivered to no block, and the counting of a stage: the event, the second, the expiry (R34 to R41, R139, R149, R150).
-/

namespace Sys2Proof.Machine

/-! ## Notices without a receiver, and the QUERY (R139, R149, R150, R167) -/

/-- No delivery of a kind arises while the Dispatcher is paused, without a frame of the kind at the head, and outside LISTEN and RUN. -/
theorem deliver_of_none {k : NoticeKind} {g : RxFrame → State → State} {s : State}
    (none : s.active = false ∨ s.dispatcher.paused = true ∨ ∀ f rest, s.dispatcher.fifo = f :: rest → f.kind ≠ k) :
    deliver k g s = s := by
  unfold deliver
  split
  next open' =>
    simp only [Bool.and_eq_true, Bool.not_eq_true'] at open'
    obtain ⟨active, running⟩ := open'
    split
    · rfl
    next f rest fifo =>
      rcases none with idle | paused | other
      · rw [active] at idle; cases idle
      · rw [running] at paused; cases paused
      · exact if_neg (other f rest fifo)
  next => rfl

theorem exec_of_noDelivery {k : NoticeKind} {c : Instr} {g : RxFrame → State → State} {s : State}
    (arrives : arrival c = some (deliver k g)) (ready : s.ready)
    (none : s.active = false ∨ s.dispatcher.paused = true ∨ ∀ f rest, s.dispatcher.fifo = f :: rest → f.kind ≠ k) :
    exec c s = .next s := by
  rw [exec_arrival_of_ready arrives ready, deliver_of_none none]

theorem takeMasked_of_other {g : Channel → State → State} {f : RxFrame} {s : State}
    (other : targetOf f.body ≠ s.loader.options.address.val) : takeMasked g f s = s :=
  if_neg (mt (targetsNode_iff f s).mp other)

theorem takeProgramNotice_of_other {f : RxFrame} {s : State} (other : targetOf f.body ≠ s.loader.options.address.val) :
    takeProgramNotice f s = s :=
  if_neg (mt (targetsNode_iff f s).mp other)

theorem takeQuery_of_other {f : RxFrame} {s : State} (other : targetOf f.body ≠ s.loader.options.address.val) :
    takeQuery f s = s :=
  if_neg (mt (targetsNode_iff f s).mp other)

theorem takeQuery_of_own {f : RxFrame} {s : State} (own : targetOf f.body = s.loader.options.address.val) :
    takeQuery f s = raiseFlag .counts s :=
  if_pos ((targetsNode_iff f s).mpr own)

/-- Settles O27: deliveries that arise for no block, and the flag that a QUERY sets. -/
theorem queryAsksForCountsAndOthersAreRemoved : Obligations.QueryAsksForCountsAndOthersAreRemoved := by
  constructor
  · intro m s k c listed ready none
    have arrives : ∃ g, arrival c = some (deliver k g) := by
      simp only [List.mem_cons, List.not_mem_nil, or_false, Prod.mk.injEq] at listed
      rcases listed with ⟨rfl, rfl⟩ | ⟨rfl, rfl⟩ | ⟨rfl, rfl⟩ | ⟨rfl, rfl⟩ | ⟨rfl, rfl⟩ | ⟨rfl, rfl⟩ | ⟨rfl, rfl⟩ | ⟨rfl, rfl⟩ |
        ⟨rfl, rfl⟩ | ⟨rfl, rfl⟩ | ⟨rfl, rfl⟩ | ⟨rfl, rfl⟩ | ⟨rfl, rfl⟩ | ⟨rfl, rfl⟩ | ⟨rfl, rfl⟩ <;> exact ⟨_, rfl⟩
    obtain ⟨g, arrives⟩ := arrives
    exact exec_of_noDelivery arrives ready none
  · intro f rest s
    have masked : ∀ {i : Instr} {k : NoticeKind} {g : Channel → State → State}, arrival i = some (deliver k (takeMasked g)) →
        targetOf f.body ≠ s.loader.options.address.val → s.delivers k f rest → exec i s = .next (s.popped rest) :=
      fun arrives other delivers =>
        (exec_delivery arrives delivers).trans (congrArg _ (takeMasked_of_other (s := s.popped rest) other))
    refine ⟨exec_delivery (g := fun _ u => u) rfl, exec_delivery (g := fun _ u => u) rfl, fun delivers own => ?_, fun other => ⟨?_, masked rfl other,
      masked rfl other, masked rfl other, masked rfl other, ?_⟩⟩
    · exact (exec_delivery rfl delivers).trans (congrArg _ (takeQuery_of_own (s := s.popped rest) own))
    · exact fun delivers => (exec_delivery rfl delivers).trans (congrArg _ (takeProgramNotice_of_other (s := s.popped rest) other))
    · exact fun delivers => (exec_delivery rfl delivers).trans (congrArg _ (takeQuery_of_other (s := s.popped rest) other))

/-! ## A half-cycle event at the running stage (R34 to R36) -/

theorem deliversHeat_iff (c : Channel) (s : State) : deliversHeat c s = true ↔
    (s.kind c = .element ∧ s.elements[c].heat = .admitted ∧
      (∃ slots, placedSlots s.plan.current (s.ownKey c) = some slots) ∧ s.locked = true ∧ s.inRun = true) ∨
    (s.kind c = .gas ∧ s.gas[c].heat = .proven) := by
  unfold deliversHeat placedNow
  cases s.kind c <;> simp [Option.isSome_iff_exists, and_assoc]

theorem countsEvent_iff (c : Channel) (s : State) : countsEvent c s = true ↔
    s.programs[c].state = .running ∧ s.programs[c].alert = false ∧ ∃ st, currentStage s.programs[c] = some st ∧
      ¬ (st.duration = 0 ∧ 65534 ≤ s.programs[c].elapsed) ∧ (st.basis = .wall ∨ deliversHeat c s = true) := by
  unfold countsEvent
  dsimp only
  cases state : s.programs[c].state
  case running =>
    cases current : currentStage s.programs[c] with
    | none => simp
    | some st => simp [and_assoc, imp_iff_not_or]
  all_goals simp

/-- Settles O28: a counted event raises the sub-second count. -/
theorem eventIsCountedByTheRunningStage : Obligations.EventIsCountedByTheRunningStage := by
  intro c s p heats counted
  have counts : (s.used c && countsEvent c s) = true ↔ counted := by
    rw [Bool.and_eq_true, countsEvent_iff, deliversHeat_iff]
  have taken : takeOne (.count c) s = takeCount c s := rfl
  refine ⟨fun uncounted => ?_, fun h => ?_⟩
  · rw [taken, takeCount, if_neg (mt counts.mp uncounted)]
  · rw [taken, takeCount, if_pos (counts.mpr h)]
    dsimp only
    by_cases second : s.base.eventRate ≤ p.subSecond + 1
    · rw [if_pos second, if_pos second]
      rfl
    · rw [if_neg second, if_neg second]
      rfl

/-! ## A completed second (R36, R37, R162) -/

theorem expires_iff (p : Program) :
    expires p = true ↔ ∃ st, currentStage p = some st ∧ st.duration ≠ 0 ∧ p.elapsed = st.duration := by
  unfold expires
  cases currentStage p <;> simp

/-- The record after a second. -/
def secondRecord (p : Program) : Program := { p with subSecond := 0, elapsed := p.elapsed + 1 }

theorem secondStep_of_expiry {c : Channel} {s : State} (timeUp : expires (secondRecord s.programs[c]) = true) :
    secondStep c s = setDue (some (.stageExpiry c)) (s.setProgram c (secondRecord s.programs[c])) :=
  if_pos timeUp

theorem secondStep_of_report {c : Channel} {s : State} (goes : expires (secondRecord s.programs[c]) = false)
    (report : (s.programs[c].elapsed + 1) % 30 = 0) : secondStep c s = raiseState c (s.setProgram c (secondRecord s.programs[c])) :=
  (if_neg (Bool.eq_false_iff.mp goes)).trans (if_pos report)

theorem secondStep_of_silence {c : Channel} {s : State} (goes : expires (secondRecord s.programs[c]) = false)
    (silent : (s.programs[c].elapsed + 1) % 30 ≠ 0) : secondStep c s = s.setProgram c (secondRecord s.programs[c]) :=
  (if_neg (Bool.eq_false_iff.mp goes)).trans (if_neg silent)

theorem secondStep_programs (c : Channel) (s : State) : (secondStep c s).programs = s.programs.set c (secondRecord s.programs[c]) := by
  unfold secondStep
  dsimp only
  split
  · rfl
  · split
    · simp [secondRecord]
    · rfl

theorem secondStep_event_due (c : Channel) (s : State) :
    (secondStep c s).event = { s.event with due := (secondStep c s).event.due } := by
  unfold secondStep
  dsimp only
  split
  · rfl
  · split
    · simp
    · rfl

/-- Time is not reported by itself. -/
theorem noteReports_secondStep (c : Channel) (s : State) : noteReports s (secondStep c s) = secondStep c s :=
  noteReports_of_unshown (secondStep_programs c s) (by simp) (by simp) (by simp)
    ((reportedOf_of_program (secondStep_programs c s) (by simp) (by simp) (by simp)).mpr ⟨rfl, rfl, rfl, rfl, rfl⟩)

/-- Settles O29: the second's record, and what it has due or reports. -/
theorem completedSecondRaisesElapsed : Obligations.CompletedSecondRaisesElapsed := by
  intro c s due p timeUp
  have taken : exec (.secondComplete c) s = .next (goOn (secondStep c (setDue none s))) := by
    rw [show Instr.secondComplete c = stepCommand (.secondComplete c) from rfl, exec_stepCommand_of_due due]
    exact congrArg (fun u => Host.Outcome.next (goOn u)) (noteReports_secondStep c (setDue none s))
  have up : expires (secondRecord (setDue none s).programs[c]) = true ↔ timeUp := expires_iff _
  refine ⟨_, taken, ?_, fun ends => ?_, fun goes => ?_, fun goes report => ?_, fun goes silent => ?_⟩
  · rw [State.eq_iff]
    refine ⟨by simp, secondStep_programs c _, by simp, by simp, by simp, by simp, by simp, by simp, by simp, by simp, rfl, by simp, by simp,
      by simp, secondStep_event_due c (setDue none s), by simp⟩
  · rw [secondStep_of_expiry (up.mpr ends)]
    exact ⟨rfl, rfl, if_neg (by simp)⟩
  all_goals have ongoing := Bool.eq_false_iff.mpr (mt up.mp goes)
  · have none : (secondStep c (setDue Option.none s)).event = (setDue Option.none s).event := by
      by_cases report : (p.elapsed + 1) % 30 = 0
      · rw [secondStep_of_report ongoing report]
        simp
      · rw [secondStep_of_silence ongoing report]
        rfl
    refine ⟨by rw [none]; rfl, ?_⟩
    rw [goOn, if_pos (by rw [none]; rfl), none]
    rfl
  · rw [secondStep_of_report ongoing report]
    exact ⟨by simp [State.asked, flagOf_raiseState], (raiseState_only c _).after rfl⟩
  · rw [secondStep_of_silence ongoing silent]
    rfl

/-! ## An expiry (R37 to R41) -/

theorem expiryStep_of_stage {c : Channel} {s : State} {st : Stage} (current : currentStage s.programs[c] = some st) :
    expiryStep c s = updateProgram c (carryEnd st s.programs[c]) s := by
  unfold expiryStep
  rw [current]

/-- There is a following stage (R38). -/
def hasNext (p : Program) : Prop := p.index + 1 < p.stageCount ∧ ∃ nx, p.stages[p.index + 1]? = some (some nx)

theorem endNext_eq (st : Stage) (p : Program) :
    (hasNext p → endNext st p = { p with index := p.index + 1, elapsed := 0, subSecond := 0, alert := false }) ∧
    (¬ hasNext p → endNext st p = endOff st p) := by
  have next : (decide (p.index + 1 < p.stageCount) && (p.stages[p.index + 1]?).join.isSome) = true ↔ hasNext p := by
    simp [hasNext, Option.isSome_iff_exists, Option.join_eq_some_iff]
  exact ⟨fun more => if_pos (next.mpr more), fun last => if_neg (mt next.mp last)⟩

theorem endRepeat_eq (st : Stage) (p : Program) :
    (p.repeatsDone < p.repeatLimit → endRepeat st p =
      { p with repeatsDone := p.repeatsDone + 1, index := 0, elapsed := 0, subSecond := 0, alert := false }) ∧
    (p.repeatLimit ≤ p.repeatsDone → endRepeat st p = endOff st p) :=
  ⟨fun more => if_pos more, fun last => if_neg (by omega)⟩

/-- An end action shows in the report of a program that was RUNNING without an alert. -/
theorem carryEnd_shows {st : Stage} {p : Program} (running : p.state = .running) (quiet : p.alert = false) :
    ¬ ((carryEnd st p).state = p.state ∧ (carryEnd st p).index = p.index ∧ (carryEnd st p).repeatsDone = p.repeatsDone ∧
      (carryEnd st p).alert = p.alert) := by
  rintro ⟨state, index, repeats, alert⟩
  have off : (endOff st p).state ≠ p.state := by simp [endOff, running]
  cases action : st.action <;> simp only [carryEnd, action] at state index repeats alert
  case next =>
    by_cases more : hasNext p
    · rw [(endNext_eq st p).1 more] at index
      simp at index
    · rw [(endNext_eq st p).2 more] at state
      exact off state
  case off => exact off state
  case again =>
    by_cases more : p.repeatsDone < p.repeatLimit
    · rw [(endRepeat_eq st p).1 more] at repeats
      simp at repeats
    · rw [(endRepeat_eq st p).2 (by omega)] at state
      exact off state
  case keep => simp [endKeep, quiet] at alert

/-- Settles O30: the end action of the current stage, its level and its report. -/
theorem expiryCarriesOutTheEndAction : Obligations.ExpiryCarriesOutTheEndAction := by
  intro c st s due current p off more
  have taken : exec (.stageExpiry c) s =
      .next (goOn (noteReports (setDue none s) (updateProgram c (carryEnd st p) (setDue none s)))) := by
    rw [show Instr.stageExpiry c = stepCommand (.stageExpiry c) from rfl, exec_stepCommand_of_due due]
    exact congrArg (fun u => Host.Outcome.next (goOn (noteReports (setDue none s) u)))
      (expiryStep_of_stage (s := setDue none s) current)
  have programs := updateProgram_programs c (carryEnd st p) (setDue none s)
  have shown := reportedOf_of_program programs (by simp) (by simp) (by simp)
  obtain ⟨record, -, -, -⟩ := updateProgram_reported c (carryEnd st p) (setDue none s)
  refine ⟨_, taken, ?_, ?_, fun action h => ?_, fun action h => ?_, fun action => ?_, fun action h => ?_, fun action h => ?_,
    fun action => ?_, fun running quiet => ?_⟩
  · rw [record, State.eq_iff]
    simp [updateProgram_handedOn, setDue]
    rfl
  · exact ((onlyFlags.of_eq (by simp)).trans (noteReports_one_only programs (by simp) (by simp) (by simp)) :
      onlyFlags _ (setDue none s).tx _)
  · rw [record, carryEnd, action]
    exact (endNext_eq st p).1 h
  · rw [record, carryEnd, action]
    exact (endNext_eq st p).2 h
  · rw [record, carryEnd, action]
    rfl
  · rw [record, carryEnd, action]
    exact (endRepeat_eq st p).1 h
  · rw [record, carryEnd, action]
    exact (endRepeat_eq st p).2 h
  · rw [record, carryEnd, action]
    rfl
  · refine asked_noteReports fun same => carryEnd_shows (st := st) running quiet ?_
    obtain ⟨state, index, repeats, alert, -⟩ := shown.mp same
    exact ⟨state, index, repeats, alert⟩

end Sys2Proof.Machine
end

section
/-!
PROOF. CLAIM and RELEASE (R49 to R51): the entry of a key, the standing release rule.
-/

namespace Sys2Proof.Machine

/-! ## Entries by key (R46, R49, R50) -/

theorem findEntry_insertEntry_same {e : ClaimEntry} {l : List ClaimEntry} (new : ∀ x ∈ l, x.key ≠ e.key) :
    findEntry e.key (insertEntry e l) = some e := by
  induction l with
  | nil => simp [insertEntry, findEntry]
  | cons x xs ih =>
    obtain ⟨other, rest⟩ := List.forall_mem_cons.mp new
    unfold insertEntry
    split
    · simp [findEntry]
    · have later : findEntry e.key (insertEntry e xs) = some e := ih rest
      simpa [findEntry, other] using later

theorem findEntry_insertEntry_other {q : Key} {e : ClaimEntry} (l : List ClaimEntry) (other : q ≠ e.key) :
    findEntry q (insertEntry e l) = findEntry q l := by
  induction l with
  | nil => simp [insertEntry, findEntry, other.symm]
  | cons x xs ih =>
    unfold insertEntry
    split
    · simp [findEntry, other.symm]
    · by_cases here : x.key = q
      · simp [findEntry, here]
      · simpa [findEntry, here] using ih

theorem findEntry_removeEntry_other {q k : Key} (l : List ClaimEntry) (other : q ≠ k) :
    findEntry q (removeEntry k l) = findEntry q l := by
  unfold findEntry removeEntry
  rw [List.find?_filter]
  refine congrArg (List.find? · l) (funext fun e => ?_)
  by_cases here : e.key = q
  · simp [here, other]
  · simp [here]

/-- A key's entry is set to the content, its flag kept (R49, R52). -/
theorem findEntry_putEntry_same (k : Key) (x : ClaimContent) (l : List ClaimEntry) : findEntry k (putEntry k x l) =
    some { key := k, current := x.current, slots := x.slots, cls := x.cls, placedLast := entryFlag k l } :=
  findEntry_insertEntry_same (e := { key := k, current := x.current, slots := x.slots, cls := x.cls, placedLast := entryFlag k l })
    (by simp [removeEntry])

theorem findEntry_putEntry_other {q k : Key} (x : ClaimContent) (l : List ClaimEntry) (other : q ≠ k) :
    findEntry q (putEntry k x l) = findEntry q l :=
  (findEntry_insertEntry_other _ other).trans (findEntry_removeEntry_other l other)

/-! ## Keys from a source (R49, R51) -/

theorem keyOf_of_node {a : Station} {n : Nat} {k : Key} (station : k.station.val = a.val) (channel : k.channel.val = n) :
    keyOf a n = some k := by
  have node : nodeOf a = some k.station := by
    have small : a.val < 8 := station ▸ k.station.isLt
    rw [nodeOf, dif_pos small]
    exact congrArg some (Fin.ext station.symm)
  have own : channelOf n = some k.channel := by
    have small : n < 4 := channel ▸ k.channel.isLt
    rw [channelOf, dif_pos small]
    exact congrArg some (Fin.ext channel.symm)
  rw [keyOf, node, own]

theorem keyOf_of_none {a : Station} {n : Nat} (none : 8 ≤ a.val ∨ 4 ≤ n) : keyOf a n = Option.none := by
  unfold keyOf
  rcases none with far | far
  · rw [nodeOf, dif_neg (by omega)]
  · rw [channelOf, dif_neg (by omega)]
    split
    next channel => cases channel
    next => rfl

theorem isOwn_iff (s : State) (a : Station) : s.isOwn a = true ↔ a.val = s.loader.options.address.val := by
  simp [State.isOwn]

theorem fromSelfUnmarked_eq_false {f : RxFrame} {s : State} (marked : s.isOwn f.source = true → f.own = true) :
    fromSelfUnmarked f s = false := by
  unfold fromSelfUnmarked
  cases own : s.isOwn f.source
  · rfl
  · simp [marked own]

/-! ## The standing release rule (R85) -/

/-- An own entry of a channel that wants no share has its release asked for. -/
theorem standingRelease_asks {c : Channel} {s : State} (element : s.kind c = .element)
    (present : (findEntry (s.ownKey c) s.plan.table).isSome = true) (unwanted : asksClaim s.elements[c].heat = false) :
    (standingRelease c s).asked (.ofChannel .release c) = true := by
  unfold standingRelease
  split
  next => simp [State.asked, flagOf_raiseRelease]
  next standing =>
    by_contra unset
    exact standing ⟨element, present, unwanted, Bool.not_eq_true _ ▸ unset⟩

/-! ## CLAIM (R49) -/

section
variable {f : RxFrame} {s : State} {k : Key}

theorem claimInRange_iff (b : Nat) (x : ClaimContent) :
    claimInRange b x = true ↔ x.cls ≤ 3 ∧ 1 ≤ x.current ∧ x.current ≤ 250 ∧ 1 ≤ x.slots ∧ x.slots ≤ b := by
  simp [claimInRange, within, and_assoc]

/-- The content that a CLAIM carries. -/
def carriedContent (f : RxFrame) : ClaimContent :=
  { current := (readClaim f.body).current, slots := (readClaim f.body).slots, cls := (readClaim f.body).cls }

theorem takeClaim_of_noKey (none : keyOf f.source (readClaim f.body).channel = Option.none) : takeClaim f s = s := by
  unfold takeClaim
  dsimp only
  rw [none]

theorem takeClaim_of_outOfRange (bad : claimInRange s.burst (carriedContent f) = false) : takeClaim f s = s := by
  have refused : (fromSelfUnmarked f s || !claimInRange s.burst (carriedContent f)) = true := by simp [bad]
  unfold takeClaim
  dsimp only
  split
  · rfl
  · exact if_pos refused

theorem takeClaim_of_taken (key : keyOf f.source (readClaim f.body).channel = some k)
    (marked : s.isOwn f.source = true → f.own = true) (inRange : claimInRange s.burst (carriedContent f) = true) :
    takeClaim f s =
      if s.isOwn f.source = true ∧ findEntry k (putEntry k (carriedContent f) s.plan.table) ≠ findEntry k s.plan.table then
        standingRelease k.channel (setTable (putEntry k (carriedContent f) s.plan.table) s)
      else setTable (putEntry k (carriedContent f) s.plan.table) s := by
  have taken : ¬ (fromSelfUnmarked f s || !claimInRange s.burst (carriedContent f)) = true := by
    simp [fromSelfUnmarked_eq_false marked, inRange]
  unfold takeClaim
  dsimp only
  rw [key]
  exact if_neg taken

/-- What a CLAIM that is taken leaves. -/
theorem takeClaim_spec (key : keyOf f.source (readClaim f.body).channel = some k)
    (marked : s.isOwn f.source = true → f.own = true) (inRange : claimInRange s.burst (carriedContent f) = true) :
    takeClaim f s = { s with
      plan := { s.plan with table := putEntry k (carriedContent f) s.plan.table }, tx := (takeClaim f s).tx } ∧
    (s.isOwn f.source = false → (takeClaim f s).tx = s.tx) ∧ onlyFlags (claimFlags k.channel) s.tx (takeClaim f s).tx := by
  rw [takeClaim_of_taken key marked inRange]
  split
  next own =>
    refine ⟨?_, fun other => ?_, (standingRelease_only _ _).after rfl⟩
    · rw [State.eq_iff]
      simp [setTable]
    · rw [other] at own
      cases own.1
  next => exact ⟨rfl, fun _ => rfl, onlyFlags.refl _ _⟩

end

/-- Settles O31: what is ignored, the entry that a CLAIM sets and a RELEASE removes. -/
theorem claimAndReleaseSetTheEntry : Obligations.ClaimAndReleaseSetTheEntry := by
  refine ⟨fun body => rfl, fun f rest s => ⟨?claim, ?release⟩⟩
  case claim =>
    intro delivers n inRange
    refine ⟨fun ignored => ?ignored, fun k station channel good marked => ?taken⟩
    case ignored =>
      rw [exec_delivery rfl delivers]
      by_cases noKey : 8 ≤ f.source.val ∨ 4 ≤ n.channel
      · rw [takeClaim_of_noKey (keyOf_of_none noKey)]
      · rw [takeClaim_of_outOfRange]
        refine Bool.eq_false_iff.mpr fun good => ?_
        obtain ⟨cls, low, high, one, burst⟩ := (claimInRange_iff _ _).mp good
        exact ignored.elim (fun far => noKey (.inl far)) fun bad => bad ⟨by omega, cls, low, high, one, burst⟩
    case taken =>
      have key : keyOf f.source n.channel = some k := keyOf_of_node station channel
      have range : claimInRange (s.popped rest).burst (carriedContent f) = true := (claimInRange_iff _ _).mpr good.2
      obtain ⟨frame, others, only⟩ := takeClaim_spec (s := s.popped rest) key marked range
      have table : (takeClaim f (s.popped rest)).plan.table = putEntry k (carriedContent f) s.plan.table :=
        congrArg (fun u => u.plan.table) frame
      refine ⟨_, exec_delivery rfl delivers, ?_, ?_, fun q other => ?_, fun ordered => ?_, others, only, fun own changed element unwanted => ?_⟩
      · rw [table]
        exact frame
      · rw [table]
        exact findEntry_putEntry_same k _ _
      · rw [table]
        exact findEntry_putEntry_other _ _ other
      · rw [State.tableOrdered, table]
        exact putEntry_inOrder k _ ordered
      · have ownKey : s.ownKey k.channel = k := by
          have address : s.loader.options.address = k.station := Fin.ext (((isOwn_iff s f.source).mp own).symm.trans station.symm)
          rw [State.ownKey, address]
        rw [table] at changed
        rw [takeClaim_of_taken (s := s.popped rest) key marked range, if_pos (by exact ⟨own, changed⟩)]
        refine standingRelease_asks (by exact element) ?_ (by exact unwanted)
        have find : (findEntry (s.ownKey k.channel) (putEntry k (carriedContent f) s.plan.table)).isSome = true := by
          rw [ownKey, findEntry_putEntry_same]
          rfl
        exact find
  case release =>
    intro delivers c
    refine ⟨fun ignored => ?unreleased, fun k station channel marked => ?released⟩
    case unreleased =>
      rw [exec_delivery rfl delivers, takeRelease, keyOf_of_none ignored]
    case released =>
      rw [exec_delivery rfl delivers, takeRelease, keyOf_of_node station channel]
      exact congrArg _ (if_neg (Bool.eq_false_iff.mp (fromSelfUnmarked_eq_false marked)))

end Sys2Proof.Machine
end

section
/-!
PROOF. The plan computation (R60 to R64): one entry's placement, the loads it leaves, and the walk over the table.
-/

namespace Sys2Proof.Machine

/-! ## One entry (R63) -/

/-- The candidates with room for a current beside the running loads. -/
def roomIn (budget current : Nat) (loads order : List Nat) : List Nat :=
  order.filter fun p => loads.getD p 0 + current ≤ budget

/-- An entry accepts the first candidates that have room. -/
theorem acceptSlots_eq (budget current : Nat) (loads : List Nat) (m : Nat) (order : List Nat) :
    acceptSlots budget current loads m order = (roomIn budget current loads order).take m := by
  induction order generalizing m with
  | nil => cases m <;> rfl
  | cons k ks ih =>
    cases m with
    | zero => rfl
    | succ m =>
      by_cases room : loads.getD k 0 + current ≤ budget
      · simp only [acceptSlots, room, if_true, ih, roomIn, List.filter_cons, decide_true, List.take_succ_cons]
      · simp only [acceptSlots, room, if_false, ih, roomIn, List.filter_cons, decide_false, Bool.false_eq_true]

/-- The record of an entry beside the running loads: placed where enough candidates have room (R63). -/
def placeEntry (budget : Nat) (order loads : List Nat) (e : ClaimEntry) : Placement :=
  if e.slots ≤ (roomIn budget e.current loads order).length then
    { key := e.key, placed := true, slots := (roomIn budget e.current loads order).take e.slots }
  else { key := e.key, placed := false, slots := [] }

section
variable (budget : Nat) (order loads : List Nat) (e : ClaimEntry)

theorem placeEntry_key : (placeEntry budget order loads e).key = e.key := by
  unfold placeEntry
  split <;> rfl

theorem placeEntry_placed :
    (placeEntry budget order loads e).placed = true ↔ e.slots ≤ (roomIn budget e.current loads order).length := by
  unfold placeEntry
  split
  next room => simp [room]
  next full => simp [full]

theorem placeEntry_slots_of_placed (placed : (placeEntry budget order loads e).placed = true) :
    (placeEntry budget order loads e).slots = (roomIn budget e.current loads order).take e.slots := by
  unfold placeEntry
  rw [if_pos ((placeEntry_placed budget order loads e).mp placed)]

theorem placeEntry_slots_of_unplaced (unplaced : (placeEntry budget order loads e).placed = false) :
    (placeEntry budget order loads e).slots = [] := by
  have full : ¬ e.slots ≤ (roomIn budget e.current loads order).length := fun room =>
    Bool.false_ne_true (unplaced.symm.trans ((placeEntry_placed budget order loads e).mpr room))
  unfold placeEntry
  rw [if_neg full]

/-- An entry stands only where there is room for it. -/
theorem mem_placeEntry_slots {p : Nat} (slot : p ∈ (placeEntry budget order loads e).slots) :
    p ∈ order ∧ loads.getD p 0 + e.current ≤ budget := by
  cases placed : (placeEntry budget order loads e).placed
  · rw [placeEntry_slots_of_unplaced budget order loads e placed] at slot
    cases slot
  · rw [placeEntry_slots_of_placed budget order loads e placed] at slot
    simpa [roomIn] using List.mem_of_mem_take slot

end

/-! ## The running loads (R63) -/

@[simp] theorem raiseLoads_length (current : Nat) (slots : List Nat) (p : Nat) (loads : List Nat) :
    (raiseLoads current slots p loads).length = loads.length := by
  induction loads generalizing p with
  | nil => rfl
  | cons l ls ih => simp [raiseLoads, ih]

theorem getD_raiseLoads (current : Nat) (slots : List Nat) (p : Nat) {loads : List Nat} {i : Nat} (inside : i < loads.length) :
    (raiseLoads current slots p loads).getD i 0 = loads.getD i 0 + if p + i ∈ slots then current else 0 := by
  induction loads generalizing p i with
  | nil => cases inside
  | cons l ls ih =>
    cases i with
    | zero => by_cases here : p ∈ slots <;> simp [raiseLoads, here]
    | succ i =>
      have next := ih (p + 1) (i := i) (by simpa using inside)
      rw [show p + 1 + i = p + (i + 1) by omega] at next
      simpa [raiseLoads] using next

theorem raiseLoads_nil (current p : Nat) (loads : List Nat) : raiseLoads current [] p loads = loads := by
  induction loads generalizing p with
  | nil => rfl
  | cons l ls ih => simp [raiseLoads, ih]

/-- The loads behind an entry. -/
def loadsBehind (budget : Nat) (order loads : List Nat) (e : ClaimEntry) : List Nat :=
  raiseLoads e.current (placeEntry budget order loads e).slots 0 loads

/-! ## The walk -/

section
variable (budget : Nat) (order : List Nat)

theorem walkEntries_cons (loads : List Nat) (e : ClaimEntry) (es : List ClaimEntry) :
    walkEntries budget order loads (e :: es) =
      placeEntry budget order loads e :: walkEntries budget order (loadsBehind budget order loads e) es := by
  have enough : (acceptSlots budget e.current loads e.slots order).length = e.slots ↔
      e.slots ≤ (roomIn budget e.current loads order).length := by
    rw [acceptSlots_eq, List.length_take]
    omega
  rw [walkEntries]
  by_cases room : e.slots ≤ (roomIn budget e.current loads order).length
  · rw [if_pos (enough.mpr room), loadsBehind, placeEntry, if_pos room, acceptSlots_eq]
  · rw [if_neg (mt enough.mp room), loadsBehind, placeEntry, if_neg room, raiseLoads_nil]

/-- The loads behind some entries. -/
def walkedLoads : List Nat → List ClaimEntry → List Nat
  | loads, [] => loads
  | loads, e :: es => walkedLoads (loadsBehind budget order loads e) es

@[simp] theorem walkedLoads_length (loads : List Nat) (es : List ClaimEntry) :
    (walkedLoads budget order loads es).length = loads.length := by
  induction es generalizing loads with
  | nil => rfl
  | cons e es ih => simp [walkedLoads, ih, loadsBehind]

@[simp] theorem walkEntries_length (loads : List Nat) (es : List ClaimEntry) :
    (walkEntries budget order loads es).length = es.length := by
  induction es generalizing loads with
  | nil => rfl
  | cons e es ih => simp [walkEntries_cons, ih]

theorem walkEntries_keys (loads : List Nat) (es : List ClaimEntry) :
    (walkEntries budget order loads es).map Placement.key = es.map ClaimEntry.key := by
  induction es generalizing loads with
  | nil => rfl
  | cons e es ih => simp [walkEntries_cons, ih, placeEntry_key]

theorem walkEntries_append (loads : List Nat) (pre post : List ClaimEntry) : walkEntries budget order loads (pre ++ post) =
    walkEntries budget order loads pre ++ walkEntries budget order (walkedLoads budget order loads pre) post := by
  induction pre generalizing loads with
  | nil => rfl
  | cons e es ih => simp [walkEntries_cons, ih, walkedLoads]

/-- Every record is the placement of its entry beside some loads. -/
theorem walkEntries_zip (loads : List Nat) (es : List ClaimEntry) :
    ∀ er ∈ es.zip (walkEntries budget order loads es), ∃ x, er.2 = placeEntry budget order x er.1 := by
  induction es generalizing loads with
  | nil => simp
  | cons e es ih =>
    rw [walkEntries_cons, List.zip_cons_cons]
    exact List.forall_mem_cons.mpr ⟨⟨loads, rfl⟩, ih _⟩

/-- What the entries placed in a phase sum to. -/
def placedLoad (p : Nat) (pairs : List (ClaimEntry × Placement)) : Nat :=
  (pairs.map fun er => if p ∈ er.2.slots then er.1.current else 0).sum

/-- The running load of a phase is what has been placed there. -/
theorem getD_walkedLoads (es : List ClaimEntry) {loads : List Nat} {p : Nat} (inside : p < loads.length) :
    (walkedLoads budget order loads es).getD p 0 =
      loads.getD p 0 + placedLoad p (es.zip (walkEntries budget order loads es)) := by
  induction es generalizing loads with
  | nil => simp [walkedLoads, placedLoad, walkEntries]
  | cons e es ih =>
    have behind : (loadsBehind budget order loads e).getD p 0 =
        loads.getD p 0 + if p ∈ (placeEntry budget order loads e).slots then e.current else 0 := by
      simpa [loadsBehind] using getD_raiseLoads e.current (placeEntry budget order loads e).slots 0 inside
    rw [walkedLoads, ih (by simpa [loadsBehind] using inside), behind, walkEntries_cons, List.zip_cons_cons]
    simp only [placedLoad, List.map_cons, List.sum_cons]
    omega

/-- No load passes the budget. -/
theorem walkedLoads_le (es : List ClaimEntry) {loads : List Nat} {p : Nat} (inside : p < loads.length)
    (room : loads.getD p 0 ≤ budget) : (walkedLoads budget order loads es).getD p 0 ≤ budget := by
  induction es generalizing loads with
  | nil => exact room
  | cons e es ih =>
    refine ih (by simpa [loadsBehind] using inside) ?_
    rw [loadsBehind, getD_raiseLoads _ _ _ inside]
    split
    next slot => exact (mem_placeEntry_slots budget order loads e (by simpa using slot)).2
    next => exact room

end

/-! ## The computed map -/

theorem mem_scanOrder {n p : Nat} : p ∈ scanOrder n ↔ p < 2 ^ n := by
  rw [(scanOrder_perm_range n).mem_iff, List.mem_range]

theorem scanOrder_nodup (n : Nat) : (scanOrder n).Nodup := (scanOrder_perm_range n).nodup_iff.mpr List.nodup_range

theorem scanOrder_length (n : Nat) : (scanOrder n).length = 2 ^ n := by simp [scanOrder]

/-- The walk begins with no load. -/
theorem getD_noLoad (n p : Nat) : (List.replicate (2 ^ n) 0).getD p 0 = 0 := by
  rw [List.getD_eq_getElem?_getD, List.getElem?_replicate]
  split <;> rfl

/-- Settles O35: what is placed in a phase is the walk's running load there. -/
theorem placementStaysWithinTheBudget : Obligations.PlacementStaysWithinTheBudget := by
  intro n budget p table
  by_cases inside : p < 2 ^ n
  · have length : p < (List.replicate (2 ^ n) 0).length := by simpa using inside
    have walked := getD_walkedLoads budget (scanOrder n) table length
    have le := walkedLoads_le budget (scanOrder n) table length (by rw [getD_noLoad]; exact Nat.zero_le _)
    rw [walked, getD_noLoad, Nat.zero_add] at le
    exact le
  · have none : (table.zip (computeMap n budget table)).map (fun er => if p ∈ er.2.slots then er.1.current else 0) =
        (table.zip (computeMap n budget table)).map fun _ => 0 := by
      refine List.map_congr_left fun er paired => if_neg fun slot => inside ?_
      obtain ⟨loads, record⟩ := walkEntries_zip budget (scanOrder n) _ table er paired
      rw [record] at slot
      exact mem_scanOrder.mp (mem_placeEntry_slots budget (scanOrder n) loads er.1 slot).1
    rw [none]
    simp

/-- Settles O36: each record is the placement of its entry beside the loads of those before it. -/
theorem placementIsAllOrNothing : Obligations.PlacementIsAllOrNothing := by
  intro n budget table
  refine ⟨walkEntries_keys budget _ _ table, fun er paired => ?each, ?first, ?beside⟩
  case each =>
    obtain ⟨loads, record⟩ := walkEntries_zip budget (scanOrder n) _ table er paired
    rw [record]
    refine ⟨fun placed => ?_, placeEntry_slots_of_unplaced _ _ _ _, fun above needs => ?_⟩
    · rw [placeEntry_slots_of_placed _ _ _ _ placed]
      have room := (placeEntry_placed _ _ _ _).mp placed
      refine ⟨by rw [List.length_take]; omega, ?_, fun p slot => ?_⟩
      · exact ((scanOrder_nodup n).filter _).sublist (List.take_sublist _ _)
      · exact mem_scanOrder.mp (List.mem_of_mem_filter (List.mem_of_mem_take slot))
    · have none : roomIn budget er.1.current loads (scanOrder n) = [] :=
        List.filter_eq_nil_iff.mpr fun p _ => by simp only [decide_eq_true_eq]; omega
      rw [← Bool.not_eq_true, placeEntry_placed, none]
      simp only [List.length_nil]
      omega
  case first =>
    rintro e es rfl current slots
    have room : roomIn budget e.current (List.replicate (2 ^ n) 0) (scanOrder n) = scanOrder n :=
      List.filter_eq_self.mpr fun p _ => by rw [getD_noLoad]; simpa using current
    have placed : (placeEntry budget (scanOrder n) (List.replicate (2 ^ n) 0) e).placed = true := by
      rw [placeEntry_placed, room, scanOrder_length]
      exact slots
    refine ⟨_, _, walkEntries_cons budget _ _ e es, placeEntry_key _ _ _ e, placed, ?_⟩
    rw [placeEntry_slots_of_placed _ _ _ _ placed, room]
  case beside =>
    rintro pre e post rfl map load room
    have split : map = walkEntries budget (scanOrder n) (List.replicate (2 ^ n) 0) pre ++
        walkEntries budget (scanOrder n) (walkedLoads budget (scanOrder n) (List.replicate (2 ^ n) 0) pre) (e :: post) :=
      walkEntries_append budget (scanOrder n) _ pre (e :: post)
    have before : pre.zip map = pre.zip (walkEntries budget (scanOrder n) (List.replicate (2 ^ n) 0) pre) := by
      have cut := List.zip_append (l₁ := pre) (r₁ := []) (l₂ := walkEntries budget (scanOrder n) (List.replicate (2 ^ n) 0) pre)
        (r₂ := walkEntries budget (scanOrder n) (walkedLoads budget (scanOrder n) (List.replicate (2 ^ n) 0) pre) (e :: post))
        (by simp)
      rw [split]
      simpa using cut
    have roomEq : room = roomIn budget e.current (walkedLoads budget (scanOrder n) (List.replicate (2 ^ n) 0) pre) (scanOrder n) := by
      refine List.filter_congr fun p inside => ?_
      have walked := getD_walkedLoads budget (scanOrder n) pre (loads := List.replicate (2 ^ n) 0) (p := p)
        (by simpa using mem_scanOrder.mp inside)
      rw [getD_noLoad, Nat.zero_add, ← before] at walked
      rw [walked]
      rfl
    rw [roomEq]
    refine ⟨placeEntry budget (scanOrder n) (walkedLoads budget (scanOrder n) (List.replicate (2 ^ n) 0) pre) e, ?_, placeEntry_key _ _ _ e,
      placeEntry_placed _ _ _ e, placeEntry_slots_of_placed _ _ _ e⟩
    rw [split, walkEntries_cons, List.getElem?_append_right (by simp)]
    simp

end Sys2Proof.Machine
end

section
/-!
PROOF. The plan point, the plan's completion and the swap (R55, R61, R65 to R71).
-/

namespace Sys2Proof.Machine

/-! ## The plan point and the completion (R61, R65) -/

/-- Settles O37: the plan point starts a computation, its completion installs what it computes. -/
theorem planCompletionReplacesTheNextMap : Obligations.PlanCompletionReplacesTheNextMap := by
  intro s
  refine ⟨fun last => if_pos last, fun other => if_neg other, fun ready idle => ?_, fun table budget ready planning => ?_⟩
  · rw [exec_arrival_of_ready (f := completePlan) rfl ready, completePlan_of_idle idle]
  · rw [exec_arrival_of_ready (f := completePlan) rfl ready, completePlan_of_planning planning]

/-! ## What a map places and what a table flags (R60, R68) -/

theorem placedSlots_some {map : List Placement} {k : Key} {slots : List Nat} (placed : placedSlots map k = some slots) :
    ∃ r ∈ map, r.key = k ∧ r.placed = true ∧ r.slots = slots := by
  obtain ⟨r, found, slotsEq⟩ := Option.map_eq_some_iff.mp placed
  have properties := List.find?_some found
  simp only [Bool.and_eq_true, decide_eq_true_eq] at properties
  exact ⟨r, List.mem_of_find?_eq_some found, properties.1, properties.2, slotsEq⟩

theorem placedSlots_none_iff (map : List Placement) (k : Key) :
    placedSlots map k = none ↔ ∀ r ∈ map, r.key = k → r.placed = false := by
  simp [placedSlots]

theorem findEntry_some {table : List ClaimEntry} {k : Key} {e : ClaimEntry} (found : findEntry k table = some e) :
    e ∈ table ∧ e.key = k ∧ entryFlag k table = e.placedLast := by
  have key := List.find?_some found
  refine ⟨List.mem_of_find?_eq_some found, by simpa using key, ?_⟩
  rw [entryFlag, found]
  rfl

theorem findEntry_none_iff (table : List ClaimEntry) (k : Key) : findEntry k table = none ↔ ∀ e ∈ table, e.key ≠ k := by
  simp [findEntry]

theorem entryFlag_of_none {table : List ClaimEntry} {k : Key} (absent : findEntry k table = none) : entryFlag k table = false := by
  rw [entryFlag, absent]
  rfl

/-! ## The swap (R67) -/

/-- The results that a swap hands to the four channels. -/
def swapResults (s : State) : Vector (Option SwapResult) 4 :=
  #v[swapResult (installedMap s) s 0, swapResult (installedMap s) s 1, swapResult (installedMap s) s 2, swapResult (installedMap s) s 3]

theorem swapResults_at (s : State) (c : Channel) : (swapResults s)[c] = swapResult (installedMap s) s c := by
  fin_cases c <;> rfl

theorem foldl_countShed (results : Vector (Option SwapResult) 4) (l : List Channel) (s : State) :
    (l.foldl (fun t c => if results[c] = some .shed then countShed t else t) s).counters = { s.counters with
      sheds := saturate^[(l.filter fun c => results[c] = some .shed).length] s.counters.sheds } := by
  induction l generalizing s with
  | nil => rfl
  | cons c cs ih =>
    rw [List.foldl_cons, ih]
    by_cases shed : results[c] = some .shed
    · simp only [shed, if_true, decide_true, List.filter_cons, List.length_cons, Function.iterate_succ_apply]
      rfl
    · simp only [shed, if_false, decide_false, List.filter_cons, Bool.false_eq_true]

/-- Every result SHED is counted (R69). -/
theorem countSheds_eq (results : Vector (Option SwapResult) 4) (s : State) : countSheds results s = { s with counters := { s.counters with
    sheds := saturate^[(allChannels.filter fun c => results[c] = some .shed).length] s.counters.sheds } } := by
  have counters := foldl_countShed results allChannels s
  rw [State.eq_iff]
  refine ⟨by simp, by simp, by simp, by simp, by simp, by simp, by simp, by simp, by simp, by simp, by simp, counters, by simp, by simp,
    by simp, by simp⟩

theorem takeSwap_of_none {s : State} (none : s.base.phase ≠ 0 ∨ s.event.swapped = true) : takeSwap s = s := if_pos none

/-- The swap of a burst start. -/
theorem takeSwap_of_due {s : State} (start : s.base.phase = 0) (due : s.event.swapped = false) : takeSwap s =
    { s with
      plan := { s.plan with
        table := flagEntries (installedMap s) s.plan.table, current := installedMap s, next := [], computed := false }
      event := { s.event with swapped := true, results := swapResults s }
      counters := { s.counters with
        sheds := saturate^[(allChannels.filter fun c => (swapResults s)[c] = some .shed).length] s.counters.sheds } } :=
  (if_neg (by simp [start, due])).trans (countSheds_eq (swapResults s) _)

theorem swapResult_eq (map : List Placement) (s : State) (c : Channel) : swapResult map s c =
    if s.kind c ≠ .element then none
    else placementResult s.elements[c].heat (placedSlots map (s.ownKey c)).isSome (entryFlag (s.ownKey c) s.plan.table) := by
  unfold swapResult
  cases s.kind c <;> rfl

/-- Settles O38: what the swap installs, hands and counts. -/
theorem swapInstallsTheNextMap : Obligations.SwapInstallsTheNextMap := by
  refine ⟨fun map k => ⟨fun _ => placedSlots_some, placedSlots_none_iff map k⟩,
    fun table k => ⟨fun _ => findEntry_some, findEntry_none_iff table k, entryFlag_of_none⟩, fun s => ⟨takeSwap_of_none, ?_⟩⟩
  intro start due map placed flag result
  have handed : ∀ c, (swapResults s)[c] = result c := by
    intro c
    rw [swapResults_at, swapResult_eq]
    by_cases other : s.kind c ≠ .element
    · exact (if_pos other).trans (if_pos other).symm
    · refine (if_neg other).trans (Eq.trans ?_ (if_neg other).symm)
      cases s.elements[c].heat <;> rfl
  have counted : (fun c : Channel => decide ((swapResults s)[c] = some .shed)) = fun c => decide (result c = some .shed) :=
    funext fun c => by rw [handed]
  refine ⟨_, takeSwap_of_due start due, rfl, rfl, rfl, handed, ?_⟩
  rw [counted]

end Sys2Proof.Machine
end

section
/-!
PROOF. Element channels (chapter 5): the placement result, the demand sample, the relay.
-/

namespace Sys2Proof.Machine

/-! ## The swap before what reads it (R70, R71, R84) -/

/-- A swap is made once. -/
theorem takeSwap_takeSwap (s : State) : takeSwap (takeSwap s) = takeSwap s := by
  by_cases none : s.base.phase ≠ 0 ∨ s.event.swapped = true
  · rw [takeSwap_of_none none, takeSwap_of_none none]
  · push Not at none
    rw [takeSwap_of_due none.1 (Bool.eq_false_iff.mpr none.2)]
    exact takeSwap_of_none (.inr rfl)

/-- A result is taken once. -/
theorem takeHanded_takeHanded (c : Channel) (s : State) : takeHanded c (takeHanded c s) = takeHanded c s := by
  cases handed : s.event.results[c] with
  | none => rw [takeHanded_idle c s handed, takeHanded_idle c s handed]
  | some r =>
    refine takeHanded_idle c _ ?_
    rw [takeHanded_some c r s handed]
    simp

/-! ## The placement result (R84) -/

/-- The driver takes the result on its way. -/
theorem takeHanded_of_some {c : Channel} {r : SwapResult} {s : State} (handed : s.event.results[c] = some r) : takeHanded c s = { s with
    elements := s.elements.set c (movedDriver r s.elements[c])
    event := { s.event with results := s.event.results.set c none } } := by
  rw [takeHanded_some c r s handed, State.eq_iff]
  simp

/-- Settles O39: the swap comes before its result, and a result moves a driver that asks. -/
theorem placementResultMovesTheDriver : Obligations.PlacementResultMovesTheDriver := by
  refine ⟨fun c s => ?_, fun c s swapped => ?_⟩
  · exact congrArg (takeHanded c) (takeSwap_takeSwap s).symm
  have taken : takeOne (.result c) s = takeHanded c s := congrArg (takeHanded c) (takeSwap_of_none swapped)
  intro e
  rw [taken]
  refine ⟨takeHanded_idle c s, fun r handed => ?_⟩
  have driver : (takeHanded c s).elements[c] = movedDriver r e := by
    rw [takeHanded_of_some handed]
    exact getElem_set_same _ _ c
  refine ⟨_, rfl, ?_, fun still => ?_, fun asks => ⟨?_, ?_, ?_⟩⟩
  · rw [driver, takeHanded_of_some handed]
  · rw [driver]
    exact if_neg (Bool.eq_false_iff.mp still)
  all_goals
    rintro rfl
    rw [driver]
    exact if_pos asks

/-! ## Claims and releases (R83, R85) -/

/-- The claim of a channel is asked for, its release not. -/
def claims (c : Channel) (t : State) : Prop :=
  t.asked (.ofChannel .claim c) = true ∧ t.asked (.ofChannel .release c) = false

/-- The release of a channel is asked for, its claim not. -/
def releases (c : Channel) (t : State) : Prop :=
  t.asked (.ofChannel .release c) = true ∧ t.asked (.ofChannel .claim c) = false

theorem claims_raiseClaim (c : Channel) (s : State) : claims c (raiseClaim c s) := by
  simp [claims, State.asked, flagOf_raiseClaim]

theorem releases_raiseRelease (c : Channel) (s : State) : releases c (raiseRelease c s) := by
  simp [releases, State.asked, flagOf_raiseRelease]

/-- With its release asked for the standing rule does nothing. -/
theorem standingRelease_of_asked {c : Channel} {s : State} (asked : s.asked (.ofChannel .release c) = true) :
    standingRelease c s = s :=
  if_neg fun standing => Bool.false_ne_true (standing.2.2.2.symm.trans asked)

theorem leaveShare_eq (c : Channel) (heat : ElementHeat) (s : State) :
    leaveShare c heat s = raiseRelease c (s.setElement c { s.elements[c] with heat := heat, relay := false }) :=
  standingRelease_of_asked (releases_raiseRelease c _).1

theorem releases_leaveShare (c : Channel) (heat : ElementHeat) (s : State) : releases c (leaveShare c heat s) := by
  rw [leaveShare_eq]
  exact releases_raiseRelease c _

/-! ## The demand sample (R81, R82) -/

theorem takeSample_of_none {c : Channel} {s : State}
    (none : s.base.phase ≠ 0 ∨ s.kind c ≠ .element ∨ s.loader.options.channels[c].demandUsed = false) : takeSample c s = s :=
  if_pos none

theorem takeSample_of_due {c : Channel} {s : State} (start : s.base.phase = 0) (element : s.kind c = .element)
    (used : s.loader.options.channels[c].demandUsed = true) :
    takeSample c s = sampleDemand c s.pins.sense[c] (takeHanded c s) := by
  refine if_neg ?_
  rintro (h | h | h)
  · exact h start
  · exact h element
  · exact Bool.false_ne_true (h.symm.trans used)

/-- The driver's part and the flags behind a sample. -/
theorem sampleDemand_spec (c : Channel) (active : Bool) (s : State) :
    sampleDemand c active s = { s with
      elements := s.elements.set c (sampledDriver active s.elements[c]), tx := (sampleDemand c active s).tx } ∧
    (asksClaim s.elements[c].heat = true → active = false → releases c (sampleDemand c active s)) ∧
    (s.elements[c].heat = .satisfied → active = true → claims c (sampleDemand c active s)) ∧
    (s.elements[c].heat = .off ∨ asksClaim s.elements[c].heat = true ∧ active = true ∨
      s.elements[c].heat = .satisfied ∧ active = false →
      sampleDemand c active s = { s with elements := s.elements.set c { s.elements[c] with demand := active } }) := by
  refine ⟨?_, fun asks inactive => ?_, fun satisfied on => ?_, fun kept => ?_⟩
  · rw [State.eq_iff]
    simp
  · subst inactive
    unfold sampleDemand
    cases heat : s.elements[c].heat
    case off | satisfied => rw [heat] at asks; cases asks
    all_goals exact releases_leaveShare c _ _
  · subst on
    unfold sampleDemand
    rw [satisfied]
    exact claims_raiseClaim c _
  · unfold sampleDemand
    rcases kept with off | ⟨asks, on⟩ | ⟨satisfied, inactive⟩
    · rw [off]
      rfl
    · subst on
      cases heat : s.elements[c].heat
      case off | satisfied => rw [heat] at asks; cases asks
      all_goals rfl
    · subst inactive
      rw [satisfied]
      rfl

theorem sampledDriver_of_asking {active : Bool} {e : ElementDriver} (asks : asksClaim e.heat = true) (inactive : active = false) :
    sampledDriver active e = { e with demand := false, heat := .satisfied, relay := false } := by
  subst inactive
  unfold sampledDriver
  cases heat : e.heat
  case off | satisfied => rw [heat] at asks; cases asks
  all_goals rfl

theorem sampledDriver_of_satisfied {active : Bool} {e : ElementDriver} (satisfied : e.heat = .satisfied) (on : active = true) :
    sampledDriver active e = { e with demand := true, heat := .claiming } := by
  subst on
  unfold sampledDriver
  rw [satisfied]

/-! ## The relay (R86) -/

/-- Settles O41: the sample acts by heat state, the relay reads the map in force. -/
theorem sampleAndRelayFollowTheRules : Obligations.SampleAndRelayFollowTheRules := by
  intro c s e
  refine ⟨takeSample_of_none, fun start element used swapped => ?_, fun start element used idle => ?_, fun swapped element => ?_, ?_⟩
  · have result : takeOne (.result c) s = takeHanded c s := congrArg (takeHanded c) (takeSwap_of_none (.inr swapped))
    have after := takeSample_of_due (c := c) (s := takeHanded c s) (by simpa using start) (by simpa [State.kind] using element)
      (by simpa using used)
    rw [takeHanded_takeHanded, (takeHanded_frame c s).2.2.2.2.2.2.2.2.2.2.2.2.1] at after
    exact (takeSample_of_due start element used).trans (result ▸ after.symm)
  · have taken := takeSample_of_due start element used
    rw [takeHanded_idle c s idle] at taken
    obtain ⟨frame, inactive, active, kept⟩ := sampleDemand_spec c s.pins.sense[c] s
    have driver : (sampleDemand c s.pins.sense[c] s).elements[c] = sampledDriver s.pins.sense[c] e := by
      rw [sampleDemand_elements]
      exact getElem_set_same _ _ c
    refine ⟨_, taken, ?_, sampleDemand_only c _ s, fun asks off => ⟨?_, inactive asks off⟩, fun satisfied on => ⟨?_, active satisfied on⟩, kept⟩
    · rw [driver]
      exact frame
    · rw [driver, sampledDriver_of_asking asks off]
    · rw [driver, sampledDriver_of_satisfied satisfied on]
  · have taken : takeOne (.relay c) s =
        if s.kind c = .element then s.setElement c { s.elements[c] with relay := relayCloses c s } else s := by
      show takeRelay c s = _
      rw [takeRelay, takeSwap_of_none swapped]
    rw [taken, if_pos element]
    rfl
  · show takeRelay c s = takeRelay c (takeSwap s)
    rw [takeRelay, takeRelay, takeSwap_takeSwap]

end Sys2Proof.Machine
end

section
/-!
PROOF. The hand-over at an ELEMENT channel (R77 to R80, R83, R87, R89).
-/

namespace Sys2Proof.Machine

/-! ## Where a hand-over comes from -/

theorem driverHandover_of_element {c : Channel} {s : State} (element : s.kind c = .element) :
    driverHandover c s = takeHandover .element (fun d level t => takeElementLevel d level (takeHanded d t)) c s := by
  unfold driverHandover
  rw [element]

theorem driverHandover_of_unused {c : Channel} {s : State} (unused : s.kind c = .unused) : driverHandover c s = s := by
  unfold driverHandover
  rw [unused]

/-- A taking of the result and the record of the levels on their way do not meet. -/
theorem takeHanded_setHandovers (c : Channel) (levels : List Nat) (s : State) :
    takeHanded c (s.setHandovers c levels) = (takeHanded c s).setHandovers c levels := by
  cases handed : s.event.results[c] with
  | none => rw [takeHanded_idle c _ (by exact handed), takeHanded_idle c s handed]
  | some r =>
    rw [takeHanded_of_some (r := r) (by exact handed), takeHanded_of_some handed]
    rfl

theorem takeHandover_of_inactive {k : ChannelKind} {f : Channel → Nat → State → State} {c : Channel} {s : State}
    (idle : s.active = false) : takeHandover k f c s = s :=
  if_neg (by simp [idle])

/-! ## What a handed level asks for (R77 to R80) -/

section
variable {c : Channel} {level : Nat} {s : State}

theorem startWanting_claims (wanting : s.loader.options.channels[c].demandUsed = false ∨ s.elements[c].demand = true) :
    claims c (startWanting c s) := by
  have asks : ¬ (s.loader.options.channels[c].demandUsed && !s.elements[c].demand) = true := by
    rcases wanting with h | h <;> rw [h] <;> simp
  unfold startWanting
  rw [if_neg asks]
  exact claims_raiseClaim c _

/-- The driver's node with a level in hand and its claim content. -/
def withLevel (c : Channel) (level : Nat) (s : State) : State :=
  s.setElement c { s.elements[c] with level := level, claim := if level = 0 then none else some (claimContent c level s) }

theorem takeElementLevel_of_zero (heat : ElementHeat) (at_heat : s.elements[c].heat = heat) : takeElementLevel c 0 s =
    if heat = .off then withLevel c 0 s
    else if heat = .satisfied then
      standingRelease c ((withLevel c 0 s).setElement c { (withLevel c 0 s).elements[c] with heat := .off })
    else leaveShare c .off (withLevel c 0 s) := by
  cases heat <;> simp only [takeElementLevel, withLevel, at_heat, if_true, reduceCtorEq, if_false]

theorem takeElementLevel_of_pos (heat : ElementHeat) (at_heat : s.elements[c].heat = heat) (pos : 0 < level) :
    takeElementLevel c level s =
      if heat = .off then startWanting c (withLevel c level s)
      else if heat = .satisfied then withLevel c level s
      else if level = s.elements[c].level then withLevel c level s else raiseClaim c (withLevel c level s) := by
  have some : ¬ level = 0 := by omega
  cases heat <;> simp only [takeElementLevel, withLevel, at_heat, some, if_true, reduceCtorEq, if_false]

theorem asksClaim_iff (heat : ElementHeat) : asksClaim heat = true ↔ heat ≠ .off ∧ heat ≠ .satisfied := by
  cases heat <;> decide

/-- The flags behind a handed level. -/
theorem takeElementLevel_flags (c : Channel) (level : Nat) (s : State) :
    (level = 0 → asksClaim s.elements[c].heat = true → releases c (takeElementLevel c level s)) ∧
    (0 < level → s.elements[c].heat = .off → (s.loader.options.channels[c].demandUsed = false ∨ s.elements[c].demand = true) →
      claims c (takeElementLevel c level s)) ∧
    (0 < level → asksClaim s.elements[c].heat = true → level ≠ s.elements[c].level → claims c (takeElementLevel c level s)) ∧
    ((level = 0 ∧ s.elements[c].heat = .off) ∨ (0 < level ∧ s.elements[c].heat = .satisfied) ∨
      (0 < level ∧ asksClaim s.elements[c].heat = true ∧ level = s.elements[c].level) →
      (takeElementLevel c level s).tx = s.tx) := by
  refine ⟨fun zero asks => ?_, fun pos off wanting => ?_, fun pos asks other => ?_, ?_⟩
  · obtain ⟨wants, going⟩ := (asksClaim_iff _).mp asks
    rw [zero, takeElementLevel_of_zero _ rfl, if_neg wants, if_neg going]
    exact releases_leaveShare c _ _
  · rw [takeElementLevel_of_pos _ off pos, if_pos rfl]
    refine startWanting_claims (wanting.imp id fun demand => ?_)
    simpa [withLevel] using demand
  · obtain ⟨wants, going⟩ := (asksClaim_iff _).mp asks
    rw [takeElementLevel_of_pos _ rfl pos, if_neg wants, if_neg going, if_neg other]
    exact claims_raiseClaim c _
  · rintro (⟨zero, off⟩ | ⟨pos, satisfied⟩ | ⟨pos, asks, same⟩)
    · rw [zero, takeElementLevel_of_zero _ off]
      rfl
    · rw [takeElementLevel_of_pos _ satisfied pos]
      rfl
    · obtain ⟨wants, going⟩ := (asksClaim_iff _).mp asks
      rw [takeElementLevel_of_pos _ rfl pos, if_neg wants, if_neg going, if_pos same]
      rfl

end

/-- What a handed level leaves in the driver. -/
theorem handedDriver_cases (c : Channel) (level : Nat) (s : State) (e : ElementDriver) :
    (level = 0 → asksClaim e.heat = false → handedDriver c level s e = { e with heat := .off, level := 0, claim := none }) ∧
    (level = 0 → asksClaim e.heat = true →
      handedDriver c level s e = { e with heat := .off, level := 0, claim := none, relay := false }) ∧
    (0 < level → e.heat = .off → s.loader.options.channels[c].demandUsed = true → e.demand = false →
      handedDriver c level s e = { e with heat := .satisfied, level := level, claim := some (claimContent c level s) }) ∧
    (0 < level → e.heat = .off → (s.loader.options.channels[c].demandUsed = false ∨ e.demand = true) →
      handedDriver c level s e = { e with heat := .claiming, level := level, claim := some (claimContent c level s) }) ∧
    (0 < level → e.heat ≠ .off → handedDriver c level s e = { e with level := level, claim := some (claimContent c level s) }) := by
  unfold handedDriver
  refine ⟨fun zero asks => ?_, fun zero asks => ?_, fun pos off used demand => ?_, fun pos off wanting => ?_, fun pos wants => ?_⟩
  · simp [zero, asks]
  · simp [zero, asks]
  all_goals have some : level ≠ 0 := by omega
  · have still : wantingHeat c s e = .satisfied := by
      unfold wantingHeat
      rw [used, demand]
      rfl
    simp [some, off, still]
  · have asks : wantingHeat c s e = .claiming := by
      unfold wantingHeat
      rcases wanting with h | h <;> rw [h] <;> simp
    simp [some, off, asks]
  · simp [some, wants]

/-! ## The hand-over and its report -/

/-- A change of one driver asks for that channel's report alone. -/
theorem noteReports_driver {s t : State} {c : Channel} {e : ElementDriver} (programs : t.programs = s.programs)
    (elements : t.elements = s.elements.set c e) (gas : t.gas = s.gas) (loader : t.loader = s.loader) :
    onlyFlags (· = .ofChannel .state c) t.tx (noteReports s t).tx ∧
    (s.kind c = .element → e.heat ≠ s.elements[c].heat → (noteReports s t).asked (.ofChannel .state c) = true) ∧
    (e.heat = s.elements[c].heat → noteReports s t = t) := by
  have others : ∀ d, d ≠ c → reportedOf s d = reportedOf t d := fun d other => by
    refine (reportedOf_congr (by rw [programs]) ?_ (by rw [gas]) (by rw [loader])).symm
    rw [elements]
    exact getElem_set_other _ _ other
  have own : reportedOf s c = reportedOf t c ↔ (s.kind c = .element → e.heat = s.elements[c].heat) := by
    rw [reportedOf_eq_iff (by rw [loader]), programs, elements, gas]
    simp
  refine ⟨(noteReports_only s t).mono fun r ⟨d, hr, differs⟩ => ?_, fun element changes => asked_noteReports fun same => ?_, fun same => ?_⟩
  · by_cases here : d = c
    · rw [hr, here]
    · exact absurd (others d here) differs
  · exact changes (own.mp same element)
  · refine noteReports_of_same fun d => ?_
    by_cases here : d = c
    · rw [here]
      exact own.mpr fun _ => same
    · exact others d here

theorem claims_noteReports {c : Channel} {s t : State} (h : claims c t) : claims c (noteReports s t) := by
  rw [claims, State.asked, State.asked, flagOf_noteReports_other _ _ _ c (by decide), flagOf_noteReports_other _ _ _ c (by decide)]
  exact h

theorem releases_noteReports {c : Channel} {s t : State} (h : releases c t) : releases c (noteReports s t) := by
  rw [releases, State.asked, State.asked, flagOf_noteReports_other _ _ _ c (by decide), flagOf_noteReports_other _ _ _ c (by decide)]
  exact h

/-- With no result on its way a hand-over inside an event takes the level alone. -/
theorem driverHandover_of_noResult {c : Channel} {s : State} (element : s.kind c = .element) (idle : s.event.results[c] = none) :
    driverHandover c s = takeHandover .element takeElementLevel c s := by
  rw [driverHandover_of_element element]
  cases active : s.active
  · rw [takeHandover_of_inactive active, takeHandover_of_inactive active]
  cases levels : s.handovers[c] with
  | nil => rw [takeHandover_idle _ _ c s (.inr levels), takeHandover_idle _ _ c s (.inr levels)]
  | cons level rest =>
    rw [takeHandover_cons _ _ c s level rest active element levels, takeHandover_cons _ _ c s level rest active element levels]
    exact congrArg (takeElementLevel c level) (takeHanded_idle c _ idle)

/-- Behind a swap a hand-over finds the result taken (R89). -/
theorem driverHandover_takeResult {c : Channel} {s : State} (active : s.active = true) (element : s.kind c = .element)
    (levels : s.handovers[c] ≠ []) (swapped : s.base.phase ≠ 0 ∨ s.event.swapped = true) :
    driverHandover c s = driverHandover c (takeResult c s) := by
  obtain ⟨level, rest, levels⟩ := List.exists_cons_of_ne_nil levels
  have result : takeResult c s = takeHanded c s := congrArg (takeHanded c) (takeSwap_of_none swapped)
  have kind : (takeHanded c s).kind c = .element := by simpa [State.kind] using element
  have on : (takeHanded c s).active = true := by simpa [State.active] using active
  have levels' : (takeHanded c s).handovers[c] = level :: rest := by
    rw [(takeHanded_frame c s).2.2.1]
    exact levels
  rw [result, driverHandover_of_element element, driverHandover_of_element kind,
    takeHandover_cons _ _ c s level rest active element levels, takeHandover_cons _ _ c _ level rest on kind levels',
    takeHanded_setHandovers, takeHanded_setHandovers, takeHanded_takeHanded]

/-- Settles O40: where hand-overs come from, and what a handed level does by heat state. -/
theorem elementHandoverActsByHeatState : Obligations.ElementHandoverActsByHeatState := by
  have command : ∀ (c : Channel) (s : State), s.loader.held = false → s.event.due = none →
      exec (.elementHandover c) s = .next (noteReports s (takeHandover .element takeElementLevel c s)) :=
    fun c s notHeld due => act_of_atRest (reporting (takeHandover .element takeElementLevel c)) s notHeld due
  refine ⟨fun c s => ⟨fun notHeld due element idle => ?_, driverHandover_takeResult, driverHandover_of_unused,
    fun ready idle => ?_⟩, fun c s ready active => ⟨fun none => ?_, fun level rest element levels => ?_⟩⟩
  · rw [command c s notHeld due, ← driverHandover_of_noResult element idle]
    rfl
  · rw [command c s ready.1 ready.2.1, takeHandover_of_inactive idle, noteReports_self]
  · rw [command c s ready.1 ready.2.1, takeHandover_idle _ _ c s none, noteReports_self]
  intro e content claims' releases'
  have taken := command c s ready.1 ready.2.1
  rw [takeHandover_cons _ _ c s level rest active element levels] at taken
  obtain ⟨releasing, wanting, changing, quiet⟩ := takeElementLevel_flags c level (s.setHandovers c rest)
  obtain ⟨still, going, satisfied, claiming, kept⟩ := handedDriver_cases c level (s.setHandovers c rest) e
  have elements : (takeElementLevel c level (s.setHandovers c rest)).elements = s.elements.set c (handedDriver c level (s.setHandovers c rest) e) :=
    takeElementLevel_elements c level (s.setHandovers c rest)
  have only := (takeElementLevel_only c level (s.setHandovers c rest)).after (x := s.tx) rfl
  obtain ⟨reports, shown, unshown⟩ := noteReports_driver (s := s) (t := takeElementLevel c level (s.setHandovers c rest)) (c := c)
    (by simp) elements (by simp) (by simp)
  have driver : (noteReports s (takeElementLevel c level (s.setHandovers c rest))).elements[c] =
      handedDriver c level (s.setHandovers c rest) e := by
    rw [(noteReports_frame _ _).2.2.2.1, elements]
    exact getElem_set_same _ _ c
  refine ⟨_, taken, ?_, (only.mono fun r hr => ?_).trans (reports.mono fun r hr => .inr (.inr hr)), fun changes => ?_, fun zero asks => ?_,
    fun zero asks => ⟨?_, releases_noteReports (releasing zero asks)⟩, fun pos off used demand => ?_,
    fun pos off wants => ⟨?_, claims_noteReports (wanting pos off wants)⟩, fun pos other => ?_,
    fun pos asks other => claims_noteReports (changing pos asks other), fun same => ?_⟩
  · rw [driver, State.eq_iff]
    simp
    rfl
  · exact hr.elim .inl fun h => .inr (.inl h)
  · rw [driver] at changes
    exact shown element changes
  · rw [driver, still zero asks]
  · rw [driver, going zero asks]
  · rw [driver, satisfied pos off used demand]
    rfl
  · rw [driver, claiming pos off wants]
    rfl
  · rw [driver, kept pos other]
    rfl
  · have heat : (handedDriver c level (s.setHandovers c rest) e).heat = e.heat := by
      rcases same with ⟨zero, off⟩ | ⟨pos, on⟩ | ⟨pos, asks, -⟩
      · rw [still zero (by rw [off]; rfl), off]
      · rw [kept pos (by rw [on]; decide)]
      · rw [kept pos ((asksClaim_iff _).mp asks).1]
    rw [unshown heat, quiet same]
    rfl

end Sys2Proof.Machine
end

section
/-!
PROOF. Gas channels (chapter 6): the spark key that is to leave the queue, the reports of a burner, the hand-over at a GAS channel.
-/

namespace Sys2Proof.Machine

/-! ## The standing indication (R97, R112) -/

/-- Two Spark Arbiters agree but for channel `c`'s free-outstanding indication. -/
def onlyStanding (c : Channel) (x y : SparkArbiter) : Prop :=
  y = { x with freeOutstanding := x.freeOutstanding.set c y.freeOutstanding[c] }

theorem onlyStanding.of_set {c : Channel} {x y : SparkArbiter} (b : Bool)
    (same : y = { x with freeOutstanding := x.freeOutstanding.set c b }) : onlyStanding c x y := by
  subst same
  simp [onlyStanding]

theorem onlyStanding.of_eq {c : Channel} {x y : SparkArbiter} (same : y = x) : onlyStanding c x y :=
  .of_set x.freeOutstanding[c] (by rw [same, set_channel_self])

theorem raiseSparkFree_arbiter (c : Channel) (s : State) :
    (raiseSparkFree c s).arbiter = { s.arbiter with freeOutstanding := s.arbiter.freeOutstanding.set c true } := by
  simp [raiseSparkFree]

theorem freeIfQueued_standing (c : Channel) (s : State) : onlyStanding c s.arbiter (freeIfQueued c s).arbiter := by
  unfold freeIfQueued
  split
  · exact .of_set true (raiseSparkFree_arbiter c s)
  · exact .of_eq rfl

theorem keyQueued_iff (c : Channel) (s : State) : keyQueued c s = true ↔ s.ownKey c ∈ s.arbiter.queue := by
  simp [keyQueued]

/-- A queued key of channel `c` is to leave the queue; where it is not queued nothing of this is touched. -/
def freesQueued (c : Channel) (s t : State) : Prop :=
  (s.ownKey c ∈ s.arbiter.queue → t.asked (.ofChannel .sparkFree c) = true ∧ t.arbiter.freeOutstanding[c] = true) ∧
  (s.ownKey c ∉ s.arbiter.queue → t.arbiter = s.arbiter ∧
    flagOf t.tx (.ofChannel .sparkFree c) = flagOf s.tx (.ofChannel .sparkFree c))

theorem freesQueued_freeIfQueued (c : Channel) (s : State) : freesQueued c s (freeIfQueued c s) := by
  refine ⟨fun queued => ?_, fun absent => ?_⟩
  · rw [freeIfQueued, if_pos ((keyQueued_iff c s).mpr queued), raiseSparkFree_arbiter]
    exact ⟨by simp [State.asked, flagOf_raiseSparkFree], getElem_set_same _ _ c⟩
  · rw [freeIfQueued, if_neg (mt (keyQueued_iff c s).mp absent)]
    exact ⟨rfl, rfl⟩

/-- What follows the removal of a key may change anything but the Arbiter and the key's flag. -/
theorem freesQueued.congr {c : Channel} {s t s' t' : State} (h : freesQueued c s t) (key : s'.ownKey c = s.ownKey c)
    (arbiter : s'.arbiter = s.arbiter) (flag : flagOf s'.tx (.ofChannel .sparkFree c) = flagOf s.tx (.ofChannel .sparkFree c))
    (arbiter' : t'.arbiter = t.arbiter) (flag' : flagOf t'.tx (.ofChannel .sparkFree c) = flagOf t.tx (.ofChannel .sparkFree c)) :
    freesQueued c s' t' := by
  simpa only [freesQueued, State.asked, key, arbiter, flag, arbiter', flag'] using h

/-- The standing rule has nothing to add where a queued key's removal is asked for. -/
theorem standingFree_of_freed {c : Channel} {s : State} (freed : keyQueued c s = true → s.asked (.ofChannel .sparkFree c) = true) :
    standingFree c s = s :=
  if_neg fun standing => Bool.false_ne_true (standing.2.2.2.symm.trans (freed standing.2.1))

theorem freed_freeIfQueued (c : Channel) (s : State) (queued : keyQueued c (freeIfQueued c s) = true) :
    (freeIfQueued c s).asked (.ofChannel .sparkFree c) = true := by
  have before : keyQueued c s = true := by simpa [keyQueued, State.ownKey] using queued
  exact ((freesQueued_freeIfQueued c s).1 ((keyQueued_iff c s).mp before)).1

/-! ## The reports of a burner (R161) -/

section
variable {s t : State} {c : Channel} {p : Program} {g : GasSequencer}

/-- A change of one channel's record and burner asks for that channel's report alone, and only where it shows. -/
theorem noteReports_burner (programs : t.programs = s.programs.set c p) (gas : t.gas = s.gas.set c g) (elements : t.elements = s.elements)
    (loader : t.loader = s.loader) :
    onlyFlags (· = .ofChannel .state c) t.tx (noteReports s t).tx ∧
    (s.kind c = .gas → g.heat ≠ s.gas[c].heat ∨ g.stray ≠ s.gas[c].stray → (noteReports s t).asked (.ofChannel .state c) = true) ∧
    (p = s.programs[c] → g.heat = s.gas[c].heat → g.stray = s.gas[c].stray → noteReports s t = t) := by
  have others : ∀ d, d ≠ c → reportedOf s d = reportedOf t d := fun d other => by
    refine (reportedOf_congr ?_ (by rw [elements]) ?_ (by rw [loader])).symm
    · rw [programs]
      exact getElem_set_other _ _ other
    · rw [gas]
      exact getElem_set_other _ _ other
  have own : reportedOf s c = reportedOf t c ↔ p.state = s.programs[c].state ∧ p.index = s.programs[c].index ∧
      p.repeatsDone = s.programs[c].repeatsDone ∧ p.alert = s.programs[c].alert ∧ p.fault = s.programs[c].fault ∧
      (s.kind c = .gas → g.heat = s.gas[c].heat ∧ g.stray = s.gas[c].stray) := by
    rw [reportedOf_eq_iff (by rw [loader]), programs, elements, gas]
    simp
  refine ⟨(noteReports_only s t).mono fun r ⟨d, hr, differs⟩ => ?_, fun kind changes => asked_noteReports fun same => ?_,
    fun record heat stray => noteReports_of_same fun d => ?_⟩
  · by_cases here : d = c
    · rw [hr, here]
    · exact absurd (others d here) differs
  · obtain ⟨-, -, -, -, -, burner⟩ := own.mp same
    exact changes.elim (· (burner kind).1) (· (burner kind).2)
  · by_cases here : d = c
    · subst here record
      exact own.mpr ⟨rfl, rfl, rfl, rfl, rfl, fun _ => ⟨heat, stray⟩⟩
    · exact others d here

theorem noteReports_flag (k : ChannelRequest) (c : Channel) (other : k ≠ .state) :
    flagOf (noteReports s t).tx (.ofChannel k c) = flagOf t.tx (.ofChannel k c) :=
  flagOf_noteReports_other s t k c other

end

theorem asked_noteReports_other {s t : State} (k : ChannelRequest) (c : Channel) (other : k ≠ .state) :
    (noteReports s t).asked (.ofChannel k c) = t.asked (.ofChannel k c) :=
  congrArg Flag.isSet (noteReports_flag k c other)

/-! ## WAIT-SPARK and the end of a wish (R102, R105, R110) -/

theorem strayTest_tx (c : Channel) (s : State) : (strayTest c s).tx = s.tx := by simp

theorem enterWaitSpark_flags (c : Channel) (s : State) : (enterWaitSpark c s).asked (.ofChannel .spark c) = true ∧
    (enterWaitSpark c s).arbiter = s.arbiter ∧ ∀ k, k ≠ .spark → flagOf (enterWaitSpark c s).tx (.ofChannel k c) = flagOf s.tx (.ofChannel k c) := by
  refine ⟨?_, by simp, fun k other => (enterWaitSpark_only c s).flag (by simpa using other)⟩
  simp [enterWaitSpark, State.asked, flagOf_raiseSpark]

theorem endWanting_eq (c : Channel) (s : State) : endWanting c s = freeIfQueued c (lowerFlag (.ofChannel .spark c)
    (s.setGas c { s.gas[c] with heat := .off, valve := false, spark := false, countdown := none, stray := false })) :=
  standingFree_of_freed (freed_freeIfQueued c _)

/-- The flags and the Arbiter behind the end of a wish. -/
theorem endWanting_flags (c : Channel) (s : State) : (endWanting c s).asked (.ofChannel .spark c) = false ∧
    onlyStanding c s.arbiter (endWanting c s).arbiter ∧ freesQueued c s (endWanting c s) := by
  rw [endWanting_eq]
  refine ⟨?_, ?_, ?_⟩
  · rw [State.asked, (freeIfQueued_only c _).flag (by simp), flagOf_lowerFlag, if_pos rfl]
    rfl
  · simpa using freeIfQueued_standing c (lowerFlag (.ofChannel .spark c)
      (s.setGas c { s.gas[c] with heat := .off, valve := false, spark := false, countdown := none, stray := false }))
  · exact (freesQueued_freeIfQueued c _).congr (by simp [State.ownKey]) (by simp) (by simp [flagOf_lowerFlag]) rfl rfl

/-! ## The hand-over (R102, R108 to R110) -/

section
variable {c : Channel} {level : Nat} {s : State}

/-- The sequencer's node with a level in hand. -/
def withGasLevel (c : Channel) (level : Nat) (s : State) : State := s.setGas c { s.gas[c] with level := level }

theorem takeGasLevel_of_start (off : s.gas[c].heat = .off) (pos : 0 < level) : takeGasLevel c level s =
    enterWaitSpark c ((withGasLevel c level s).setGas c { (withGasLevel c level s).gas[c] with attempts := 0 }) := by
  have some : level ≠ 0 := by omega
  simp only [takeGasLevel, off, some, if_false, withGasLevel]

theorem takeGasLevel_of_end (wish : s.gas[c].heat ≠ .off) (kept : s.gas[c].heat ≠ .lockout) :
    takeGasLevel c 0 s = endWanting c (withGasLevel c 0 s) := by
  cases heat : s.gas[c].heat
  case off => exact absurd heat wish
  case lockout => exact absurd heat kept
  all_goals simp only [takeGasLevel, heat, if_true, withGasLevel]

theorem takeGasLevel_of_record
    (record : (s.gas[c].heat = .off ∧ level = 0) ∨ s.gas[c].heat = .lockout ∨ (s.gas[c].heat ≠ .off ∧ 0 < level)) :
    takeGasLevel c level s = withGasLevel c level s := by
  rcases record with ⟨off, zero⟩ | lockout | ⟨wish, pos⟩
  · simp only [takeGasLevel, off, zero, if_true, withGasLevel]
  · simp only [takeGasLevel, lockout, withGasLevel]
  · have some : level ≠ 0 := by omega
    cases heat : s.gas[c].heat
    case off => exact absurd heat wish
    all_goals simp only [takeGasLevel, heat, some, if_false, withGasLevel]

/-- What a handed level leaves in the burner. -/
theorem handedBurner_cases (level : Nat) (g : GasSequencer) :
    (g.heat = .off → 0 < level → handedBurner level g =
      { g with heat := .waitSpark, level := level, attempts := 0, countdown := none, stray := g.stray || g.flame }) ∧
    (g.heat ≠ .off → g.heat ≠ .lockout → level = 0 → handedBurner level g =
      { g with heat := .off, level := 0, valve := false, spark := false, countdown := none, stray := false }) ∧
    ((g.heat = .off ∧ level = 0) ∨ g.heat = .lockout ∨ (g.heat ≠ .off ∧ 0 < level) →
      handedBurner level g = { g with level := level }) := by
  refine ⟨fun off pos => ?_, fun wish kept zero => ?_, ?_⟩
  · have some : level ≠ 0 := by omega
    simp only [handedBurner, off, some, if_false]
  · subst zero
    cases heat : g.heat
    case off => exact absurd heat wish
    case lockout => exact absurd heat kept
    all_goals simp only [handedBurner, heat, if_true]
  · rintro (⟨off, zero⟩ | lockout | ⟨wish, pos⟩)
    · simp only [handedBurner, off, zero, if_true]
    · simp only [handedBurner, lockout]
    · have some : level ≠ 0 := by omega
      cases heat : g.heat
      case off => exact absurd heat wish
      all_goals simp only [handedBurner, heat, some, if_false]

theorem takeGasLevel_standing (c : Channel) (level : Nat) (s : State) : onlyStanding c s.arbiter (takeGasLevel c level s).arbiter := by
  by_cases off : s.gas[c].heat = .off
  · rcases Nat.eq_zero_or_pos level with zero | pos
    · rw [takeGasLevel_of_record (.inl ⟨off, zero⟩)]
      exact .of_eq rfl
    · rw [takeGasLevel_of_start off pos]
      exact .of_eq (by simp [withGasLevel])
  · by_cases lockout : s.gas[c].heat = .lockout
    · rw [takeGasLevel_of_record (.inr (.inl lockout))]
      exact .of_eq rfl
    · rcases Nat.eq_zero_or_pos level with zero | pos
      · subst zero
        rw [takeGasLevel_of_end off lockout]
        exact (endWanting_flags c (withGasLevel c 0 s)).2.1
      · rw [takeGasLevel_of_record (.inr (.inr ⟨off, pos⟩))]
        exact .of_eq rfl

end

theorem driverHandover_of_gas {c : Channel} {s : State} (gas : s.kind c = .gas) :
    driverHandover c s = takeHandover .gas takeGasLevel c s := by
  unfold driverHandover
  rw [gas]

/-- Settles O42: where hand-overs come from, and what a handed level does by heat state. -/
theorem gasHandoverStartsOrEndsTheWish : Obligations.GasHandoverStartsOrEndsTheWish := by
  have command : ∀ (c : Channel) (s : State), s.loader.held = false → s.event.due = none →
      exec (.gasHandover c) s = .next (noteReports s (takeHandover .gas takeGasLevel c s)) :=
    fun c s notHeld due => act_of_atRest (reporting (takeHandover .gas takeGasLevel c)) s notHeld due
  refine ⟨fun c s notHeld due gas => ?_, fun c s ready idle => ?_, fun c s ready active => ⟨fun none => ?_, fun level rest gas levels => ?_⟩⟩
  · rw [command c s notHeld due, ← driverHandover_of_gas gas]
    rfl
  · rw [command c s ready.1 ready.2.1, takeHandover_of_inactive idle, noteReports_self]
  · rw [command c s ready.1 ready.2.1, takeHandover_idle _ _ c s none, noteReports_self]
  intro g
  have taken := command c s ready.1 ready.2.1
  rw [takeHandover_cons _ _ c s level rest active gas levels] at taken
  have only := (takeGasLevel_only c (s.setHandovers c rest) level).after (x := s.tx) rfl
  have standing : onlyStanding c s.arbiter (takeGasLevel c level (s.setHandovers c rest)).arbiter := takeGasLevel_standing c level _
  obtain ⟨start, stop, record⟩ := handedBurner_cases level g
  have gases : (takeGasLevel c level (s.setHandovers c rest)).gas = s.gas.set c (handedBurner level g) := takeGasLevel_gas c level _
  obtain ⟨reports, shown, unshown⟩ := noteReports_burner (s := s) (t := takeGasLevel c level (s.setHandovers c rest)) (c := c)
    (p := s.programs[c]) (by simp) gases (by simp) (by simp)
  have burner : (noteReports s (takeGasLevel c level (s.setHandovers c rest))).gas[c] = handedBurner level g := by
    rw [(noteReports_frame _ _).2.2.2.2.1, gases]
    exact getElem_set_same _ _ c
  have arbiter : (noteReports s (takeGasLevel c level (s.setHandovers c rest))).arbiter =
      (takeGasLevel c level (s.setHandovers c rest)).arbiter := by simp
  refine ⟨_, taken, ?_, (only.mono fun r hr => ?_).trans (reports.mono fun r hr => .inr (.inr hr)), fun changes => ?_,
    fun off pos => ⟨?_, ?_, ?_, ?_⟩, fun wish kept zero => ⟨?_, ?_, ?_⟩, fun same => ⟨?_, ?_, ?_⟩⟩
  · rw [burner, arbiter, State.eq_iff]
    refine ⟨by simp, by simp, by simp, by simp, ?_, by simp, ?_, by simp, by simp, by simp, rfl, by simp, by simp, by simp, by simp, by simp⟩
    · rw [(noteReports_frame _ _).2.2.2.2.1, gases]
    · exact arbiter.trans standing
  · exact hr.elim .inl fun h => .inr (.inl h)
  · rw [burner] at changes
    exact shown gas changes
  · rw [burner, start off pos]
  · rw [asked_noteReports_other _ c (by decide), takeGasLevel_of_start (by exact off) pos]
    exact (enterWaitSpark_flags c _).1
  · rw [arbiter, takeGasLevel_of_start (by exact off) pos, (enterWaitSpark_flags c _).2.1]
    rfl
  · rw [noteReports_flag _ c (by decide), takeGasLevel_of_start (by exact off) pos, (enterWaitSpark_flags c _).2.2 _ (by decide)]
    rfl
  · rw [burner, stop wish kept zero]
  · subst zero
    rw [asked_noteReports_other _ c (by decide), takeGasLevel_of_end (by exact wish) (by exact kept)]
    exact (endWanting_flags c _).1
  · subst zero
    rw [asked_noteReports_other _ c (by decide), noteReports_flag _ c (by decide), arbiter,
      takeGasLevel_of_end (by exact wish) (by exact kept)]
    exact (endWanting_flags c (withGasLevel c 0 (s.setHandovers c rest))).2.2
  · rw [burner, record same]
  · rw [unshown rfl (by rw [record same]) (by rw [record same]), takeGasLevel_of_record (by exact same)]
    rfl
  · rw [arbiter, takeGasLevel_of_record (by exact same)]
    rfl

end Sys2Proof.Machine
end

section
/-!
PROOF. The spark start point (R101, R103, R107, R108, R114).
-/

namespace Sys2Proof.Machine

/-! ## The point and the channel at the head -/

theorem headChannel_iff (s : State) (c : Channel) :
    headChannel s = some c ↔ s.arbiter.queue.head? = some (s.ownKey c) ∧ s.kind c = .gas := by
  unfold headChannel
  cases head : s.arbiter.queue.head? with
  | none => simp
  | some k =>
    have own : k = s.ownKey c ↔ k.station = s.loader.options.address ∧ k.channel = c := by
      cases k
      simp [State.ownKey]
    rw [Option.some_inj, own]
    constructor
    · intro found
      dsimp only at found
      split at found
      next h =>
        obtain rfl := Option.some.inj found
        exact ⟨⟨h.1, rfl⟩, h.2⟩
      next => cases found
    · rintro ⟨⟨station, rfl⟩, gas⟩
      exact if_pos ⟨station, gas⟩

theorem sparkPoint_of_head {busy : Bool} {s : State} {c : Channel} (head : headChannel s = some c) :
    sparkPoint busy s = considerStart c (busy || s.sparkEnable) s := by
  unfold sparkPoint
  rw [head]

theorem sparkPoint_of_none {busy : Bool} {s : State} (none : headChannel s = Option.none) : sparkPoint busy s = s := by
  unfold sparkPoint
  rw [none]

/-- The node at a start point that it takes. -/
def atStartPoint (busy : Bool) (s : State) : State :=
  { s with pins := { s.pins with sparkBusy := busy }, event := { s.event with startPoint := false } }

section
variable {bits : Nat} {busy : Bool} {s : State}

theorem exec_sparkStartPoint (ready : s.ready) : exec (.sparkStartPoint { bits := bits, busy := busy }) s =
    .next (if bits = s.defer then takeStartPoint busy s else s) :=
  exec_arrival_of_ready (f := fun u => if bits = u.defer then takeStartPoint busy u else u) rfl ready

theorem takeStartPoint_of_none (none : s.active = false ∨ s.event.startPoint = false) : takeStartPoint busy s = s :=
  if_neg (by rcases none with h | h <;> simp [h])

theorem takeStartPoint_of_due (active : s.active = true) (due : s.event.startPoint = true) :
    takeStartPoint busy s = noteReports (atStartPoint busy s) (sparkPoint busy (atStartPoint busy s)) :=
  if_pos (by simp [active, due])

end

/-! ## What is considered (R101) -/

section
variable {c : Channel} {line : Bool} {s : State}

theorem startEnabled_iff : startEnabled c s = true ↔ s.inRun = true ∧ s.locked = true ∧
    s.asked (.ofChannel .sparkFree c) = false ∧ s.arbiter.freeOutstanding[c] = false := by
  simp only [startEnabled, State.asked, Bool.and_eq_true, Bool.not_eq_true', and_assoc]

theorem mayStart_iff (g : GasSequencer) : mayStart g = true ↔ g.heat = .waitSpark ∨ g.heat = .relightWait ∨
    (g.heat = .ignite ∧ g.spark = false) ∨ (g.heat = .relightSpark ∧ g.spark = false) := by
  unfold mayStart
  cases g.heat <;> simp

theorem considerStart_of_none (none : ¬ startEnabled c s = true ∨ (s.gas[c].flame = true ∧ s.gas[c].heat ≠ .waitSpark) ∨
    (s.gas[c].flame = false ∧ ¬ mayStart s.gas[c] = true)) : considerStart c line s = s := by
  unfold considerStart
  split
  · rfl
  next enabled =>
    simp only [Bool.not_eq_true', Bool.not_eq_false] at enabled
    rcases none with disabled | ⟨flame, other⟩ | ⟨dark, still⟩
    · exact absurd enabled disabled
    · rw [if_pos flame, if_neg other]
    · rw [if_neg (by rw [dark]; decide), if_pos (by simpa using still)]

theorem considerStart_of_enabled (enabled : startEnabled c s = true) : considerStart c line s =
    if s.gas[c].flame then (if s.gas[c].heat = .waitSpark then giveWay c s else s)
    else if !mayStart s.gas[c] then s
    else if line then countSparkConflict s
    else startSpark c s :=
  if_neg (by simp [enabled])

theorem considerStart_of_stray (enabled : startEnabled c s = true) (flame : s.gas[c].flame = true)
    (waits : s.gas[c].heat = .waitSpark) : considerStart c line s = giveWay c s := by
  rw [considerStart_of_enabled enabled, if_pos flame, if_pos waits]

theorem considerStart_of_waiting (enabled : startEnabled c s = true) (dark : s.gas[c].flame = false)
    (waits : mayStart s.gas[c] = true) : considerStart c line s = if line then countSparkConflict s else startSpark c s := by
  have lit : ¬ s.gas[c].flame = true := by rw [dark]; decide
  have still : ¬ (!mayStart s.gas[c]) = true := by rw [waits]; decide
  rw [considerStart_of_enabled enabled, if_neg lit, if_neg still]

theorem startSpark_eq (c : Channel) (s : State) : startSpark c s = s.setGas c (startedBurner s s.gas[c]) := by
  cases heat : s.gas[c].heat <;> simp only [startSpark, startedBurner, heat]

/-- What a start point may touch. -/
theorem considerStart_touches (c : Channel) (line : Bool) (s : State) :
    (∃ g, (considerStart c line s).gas = s.gas.set c g) ∧ onlyStanding c s.arbiter (considerStart c line s).arbiter := by
  have kept : ∃ g, s.gas = s.gas.set c g := ⟨s.gas[c], (set_channel_self _ c).symm⟩
  unfold considerStart
  split
  · exact ⟨kept, .of_eq rfl⟩
  · split
    · split
      · exact ⟨by simpa [giveWay] using kept, .of_set true (by simp [giveWay, raiseSparkFree_arbiter])⟩
      · exact ⟨kept, .of_eq rfl⟩
    · split
      · exact ⟨kept, .of_eq rfl⟩
      · split
        · exact ⟨kept, .of_eq rfl⟩
        · rw [startSpark_eq]
          exact ⟨⟨_, rfl⟩, .of_eq rfl⟩

theorem startedBurner_cases (s : State) (g : GasSequencer) :
    (g.heat = .waitSpark → startedBurner s g = { g with
      heat := .ignite, spark := true, stray := false, valve := true
      step := s.loader.options.ignitionStep, latched := s.loader.options.ignitionStep
      countdown := some { window := .ignition, left := s.loader.options.ignitionSeconds * s.base.eventRate } }) ∧
    (g.heat = .relightWait → startedBurner s g = { g with heat := .relightSpark, spark := true }) ∧
    (g.heat = .ignite ∨ g.heat = .relightSpark → startedBurner s g = { g with spark := true }) := by
  refine ⟨fun heat => ?_, fun heat => ?_, fun heat => ?_⟩
  · simp only [startedBurner, heat, setStep, windowOf]
  · simp only [startedBurner, heat]
  · rcases heat with heat | heat <;> simp only [startedBurner, heat]

end

/-- Settles O43: the half-cycle's start point is taken once, and the channel at the head may start. -/
theorem startPointLightsTheHeadBurner : Obligations.StartPointLightsTheHeadBurner := by
  refine ⟨fun p s ready idle => ?_, fun bits busy c s ready active => ?_⟩
  · rw [exec_sparkStartPoint ready, takeStartPoint_of_none (.inl idle), ite_self]
  intro deferBits seen g head enabled waits line
  have taken : s.event.startPoint = true → bits = deferBits →
      exec (.sparkStartPoint { bits := bits, busy := busy }) s = .next (noteReports seen (sparkPoint busy seen)) := fun due moment => by
    rw [exec_sparkStartPoint ready, if_pos (by exact moment), takeStartPoint_of_due active due]
    rfl
  refine ⟨fun none => ?_, fun due moment noHead => ?_, fun due moment atHead => ?_⟩
  · rw [exec_sparkStartPoint ready]
    by_cases moment : bits = s.defer
    · rw [if_pos moment, takeStartPoint_of_none (.inr (none.resolve_right fun other => other moment))]
    · rw [if_neg moment]
  · have none : headChannel seen = Option.none := by
      refine Option.eq_none_iff_forall_ne_some.mpr fun d found => noHead d ?_
      exact (headChannel_iff seen d).mp found
    rw [taken due moment, sparkPoint_of_none none, noteReports_self]
  have found : headChannel seen = some c := (headChannel_iff seen c).mpr atHead
  have enabledIff : startEnabled c seen = true ↔ enabled := by
    rw [startEnabled_iff]
    exact ⟨fun ok => ⟨atHead, ok⟩, fun ok => ok.2⟩
  have mayIff : mayStart g = true ↔ waits := mayStart_iff g
  have lineIff : (busy || seen.sparkEnable) = true ↔ line := Bool.or_eq_true _ _ ▸ Iff.rfl
  obtain ⟨⟨x, gases⟩, standing⟩ := considerStart_touches c (busy || seen.sparkEnable) seen
  have only := (considerStart_only c seen (busy || seen.sparkEnable)).after (x := s.tx) rfl
  obtain ⟨reports, shown, unshown⟩ := noteReports_burner (s := seen) (t := considerStart c (busy || seen.sparkEnable) seen) (c := c)
    (p := seen.programs[c]) (by simp) gases (by simp) (by simp)
  rw [taken due moment, sparkPoint_of_head found]
  refine ⟨_, rfl, ?frame, (only.mono fun r hr => ?_).trans (reports.mono fun r hr => .inr (.inr hr)), fun none => ?none,
    fun ok flame stray => ?stray, fun ok dark may conflict => ?conflict, fun ok dark may clear => ?start⟩
  case frame =>
    have gasAt : (noteReports seen (considerStart c (busy || seen.sparkEnable) seen)).gas[c] = x := by
      rw [(noteReports_frame _ _).2.2.2.2.1, gases]
      exact getElem_set_same _ _ c
    rw [gasAt, State.eq_iff]
    refine ⟨by simp, by simp, by simp, by simp, ?_, by simp, ?_, by simp, by simp, by simp, rfl, rfl, by simp, by simp, by simp, by simp⟩
    · rw [(noteReports_frame _ _).2.2.2.2.1, gases]
    · rw [(noteReports_frame _ _).2.2.2.2.2.2.1]
      exact standing
  · exact hr.elim .inl fun h => .inr (.inl h)
  case none =>
    rw [considerStart_of_none, noteReports_self]
    exact none.imp (mt enabledIff.mp) (Or.imp id fun ⟨dark, still⟩ => ⟨dark, mt mayIff.mp still⟩)
  case stray =>
    have gives := considerStart_of_stray (line := busy || seen.sparkEnable) (enabledIff.mpr ok) flame stray
    rw [gives]
    refine ⟨by simp [giveWay, g, seen], by simp [giveWay, seen], ?_, ?_, ?_⟩
    · rw [asked_noteReports_other _ c (by decide), giveWay, State.asked, flagOf_raiseSpark, if_pos rfl]
      rfl
    · rw [asked_noteReports_other _ c (by decide), giveWay, State.asked, flagOf_raiseSpark, if_neg (by simp), flagOf_raiseSparkFree,
        if_pos rfl]
      rfl
    · simp [giveWay, raiseSparkFree_arbiter]
  case conflict =>
    rw [considerStart_of_waiting (enabledIff.mpr ok) dark (mayIff.mpr may), if_pos (lineIff.mpr conflict)]
    rw [noteReports_of_same fun d => (reportedOf_congr (by simp) (by simp) (by simp) (by simp)).symm]
    rfl
  case start =>
    have starts : considerStart c (busy || seen.sparkEnable) seen = seen.setGas c (startedBurner seen g) := by
      rw [considerStart_of_waiting (enabledIff.mpr ok) dark (mayIff.mpr may), if_neg (mt lineIff.mp clear), startSpark_eq]
    obtain ⟨ignites, relights, resumes⟩ := startedBurner_cases seen g
    have burner : (noteReports seen (seen.setGas c (startedBurner seen g))).gas[c] = startedBurner seen g := by simp
    obtain ⟨reports, shown, -⟩ := noteReports_burner (s := seen) (t := seen.setGas c (startedBurner seen g)) (c := c)
      (p := seen.programs[c]) (by simp) rfl (by simp) (by simp)
    have kind : seen.kind c = .gas := atHead.2
    rw [starts, burner]
    refine ⟨by simp [seen], by simp [seen], reports, fun heat => ⟨shown kind (.inl ?_), ignites heat⟩,
      fun heat => ⟨shown kind (.inl ?_), relights heat⟩, resumes⟩
    · rw [ignites heat]
      exact fun same => GasHeat.noConfusion (same.trans heat)
    · rw [relights heat]
      exact fun same => GasHeat.noConfusion (same.trans heat)

end Sys2Proof.Machine
end

section
/-!
PROOF. The flame sample and the changes of the debounced flame (R94, R95, R104 to R108).
-/

namespace Sys2Proof.Machine

/-! ## Steps 2 and 3 of R95 -/

/-- What is due behind a countdown's decrease. -/
def countdownDue (c : Channel) (g : GasSequencer) (due : Option Due) : Option Due :=
  match g.countdown with
  | none => due
  | some w => if w.left ≤ 1 then some (windowEnd c w.window) else due

theorem countdownDue_of_none {g : GasSequencer} (c : Channel) (due : Option Due) (none : g.countdown = Option.none) :
    countdownDue c g due = due := by
  simp only [countdownDue, none]

theorem countdownDue_of_some {g : GasSequencer} {w : Countdown} (c : Channel) (due : Option Due) (some : g.countdown = Option.some w) :
    countdownDue c g due = if w.left ≤ 1 then Option.some (windowEnd c w.window) else due := by
  simp only [countdownDue, some]

theorem countDown_event (c : Channel) (s : State) :
    (countDown c s).event = { s.event with due := countdownDue c s.gas[c] s.event.due } := by
  cases run : s.gas[c].countdown with
  | none => simp only [countDown, countdownDue, run]
  | some w => by_cases ends : w.left ≤ 1 <;> simp only [countDown, countdownDue, run, ends, if_true, if_false] <;> rfl

/-- Steps 2 and 3 of R95 change the channel's burner and what is due. -/
theorem sequencerRest_eq (c : Channel) (running : Bool) (s : State) : sequencerRest c running s = { s with
    gas := s.gas.set c (restBurner running s.gas[c])
    event := { s.event with due := if running then countdownDue c s.gas[c] s.event.due else s.event.due } } := by
  have event : (sequencerRest c running s).event =
      { s.event with due := if running then countdownDue c s.gas[c] s.event.due else s.event.due } := by
    have proven : ∀ u : State, (setProvenStep c u).event = u.event := fun u => by simp
    unfold sequencerRest
    rw [proven]
    cases running
    · rfl
    · exact countDown_event c s
  rw [State.eq_iff]
  refine ⟨by simp, by simp, by simp, by simp, by simp, by simp, by simp, by simp, by simp, by simp, by simp, by simp, by simp, by simp,
    event, by simp⟩

/-- What steps 2 and 3 of R95 make of a burner. -/
theorem restBurner_eq (running : Bool) (g : GasSequencer) : restBurner running g = { g with
    countdown := if running then g.countdown.map fun w => { w with left := w.left - 1 } else g.countdown
    step := if g.heat = .proven then g.level else g.step
    latched := if g.heat = .proven then g.level else g.latched } := by
  unfold restBurner
  cases running <;> by_cases proven : g.heat = .proven <;> simp [proven, setStep]

/-- Where the countdown is as before the sample there is no need to ask whether it ran. -/
theorem restBurner_running (g : GasSequencer) {running : Bool} (same : running = g.countdown.isSome) : restBurner running g = { g with
    countdown := g.countdown.map fun w => { w with left := w.left - 1 }
    step := if g.heat = .proven then g.level else g.step
    latched := if g.heat = .proven then g.level else g.latched } := by
  rw [restBurner_eq, same]
  cases g.countdown <;> rfl

theorem countdownDue_running (c : Channel) (g : GasSequencer) (due : Option Due) {running : Bool}
    (same : running = g.countdown.isSome) : (if running then countdownDue c g due else due) = countdownDue c g due := by
  rw [same]
  cases run : g.countdown with
  | none => exact (countdownDue_of_none c due run).symm
  | some w => rfl

/-! ## The sample (R94) -/

theorem flameChanges_iff (c : Channel) (s : State) : flameChanges c s = true ↔
    s.pins.sense[c] ≠ s.gas[c].flame ∧ (if s.gas[c].flame then 2 else 4) ≤ s.gas[c].run + 1 := by
  simp only [flameChanges, Bool.and_eq_true, bne_iff_ne, decide_eq_true_eq]

/-- Settles O44: the sample counts the disagreeing run, and a change is due or steps 2 and 3 follow. -/
theorem flameSampleDebouncesAndCountsDown : Obligations.FlameSampleDebouncesAndCountsDown := by
  intro c s gas g run changes
  have changesIff : flameChanges c s = true ↔ changes := flameChanges_iff c s
  have taken : takeOne (.flame c) s = takeFlame c s := rfl
  rw [taken, takeFlame_eq c s gas]
  by_cases change : changes
  · rw [if_pos (changesIff.mpr change)]
    have burner : (s.setGas c { s.gas[c] with run := sampledRun c s }).gas[c] = { g with run := run } := getElem_set_same _ _ c
    refine ⟨_, rfl, ?_, fun _ => ⟨burner, rfl⟩, fun same => absurd change same⟩
    rw [State.eq_iff]
    simp [setDue]
  · have burner : (s.setGas c { s.gas[c] with run := sampledRun c s }).gas[c] = { g with run := run } := getElem_set_same _ _ c
    have rest := sequencerRest_eq c g.countdown.isSome (s.setGas c { s.gas[c] with run := sampledRun c s })
    rw [burner, restBurner_running { g with run := run } (running := g.countdown.isSome) rfl,
      countdownDue_running c { g with run := run } _ (running := g.countdown.isSome) rfl] at rest
    rw [if_neg (mt changesIff.mp change)]
    refine ⟨_, rest, ?_, fun same => absurd same change, fun _ => ⟨getElem_set_same _ _ c, fun w ticking left => ?_, fun none => ?_,
      fun w ticking left => ?_⟩⟩
    · rw [State.eq_iff]
      simp
    · have due := countdownDue_of_some (g := { g with run := run }) (w := w) c s.event.due ticking
      exact congrArg (fun d => { s.event with due := d }) (due.trans (if_neg (by omega)))
    · have due := countdownDue_of_none (g := { g with run := run }) c s.event.due none
      exact congrArg (fun d => { s.event with due := d }) due
    · have due := countdownDue_of_some (g := { g with run := run }) (w := w) c s.event.due ticking
      refine congrArg (fun d => { s.event with due := d }) ((due.trans (if_pos left)).trans ?_)
      cases w.window <;> rfl

end Sys2Proof.Machine
end

section
/-!
PROOF. The debounced flame appears (R104, R107, R108) and disappears (R106), and steps 2 and 3 of R95 follow.
-/

namespace Sys2Proof.Machine

theorem countdown_of_fit {s : State} (fits : s.countdownsFit) (c : Channel) (still : s.gas[c].heat = .off ∨
    s.gas[c].heat = .waitSpark ∨ s.gas[c].heat = .proven ∨ s.gas[c].heat = .lockout) : s.gas[c].countdown = none := by
  have fit := fits c
  rcases still with heat | heat | heat | heat
  all_goals
    rw [heat] at fit
    exact Option.map_eq_none_iff.mp fit

/-! ## The flame appears -/

/-- The burner with a flame just seen. -/
def lit (g : GasSequencer) : GasSequencer := { g with flame := true, run := 0 }

/-- The burner at the end of the event at which its flame appeared. -/
def appearedBurner (g : GasSequencer) : GasSequencer := restBurner g.countdown.isSome (litBurner (lit g))

/-- What is due at the end of the event at which a flame appeared. -/
def appearedDue (c : Channel) (g : GasSequencer) (due : Option Due) : Option Due :=
  if g.countdown.isSome then countdownDue c (litBurner (lit g)) due else due

/-- What a flame's appearance makes of the burner, by heat state. -/
theorem appearedBurner_cases (g : GasSequencer) :
    (g.heat = .ignite → appearedBurner g = { lit g with
      heat := .proven, spark := false, step := g.level, latched := g.level, countdown := none, attempts := 0 }) ∧
    (g.heat = .relightWait ∨ g.heat = .relightSpark → appearedBurner g = { lit g with
      heat := .proven, spark := false, step := g.level, latched := g.level, countdown := none }) ∧
    (g.heat = .waitSpark → g.countdown = none → appearedBurner g = { lit g with stray := true }) ∧
    (g.heat = .off ∨ g.heat = .lockout → g.countdown = none → appearedBurner g = lit g) ∧
    (∀ w, g.heat = .purge → g.countdown = some w →
      appearedBurner g = { lit g with countdown := some { w with left := w.left - 1 } }) ∧
    (g.heat = .proven → g.countdown = none → appearedBurner g = { lit g with step := g.level, latched := g.level }) := by
  simp only [appearedBurner, restBurner_eq]
  refine ⟨fun heat => ?_, fun heat => ?_, fun heat none => ?_, fun heat none => ?_, fun w heat some => ?_, fun heat none => ?_⟩
  · simp [litBurner, lit, heat, setStep]
  · rcases heat with heat | heat <;> simp [litBurner, lit, heat, setStep]
  · simp [litBurner, lit, heat, none]
  · rcases heat with heat | heat <;> simp [litBurner, lit, heat, none]
  · simp [litBurner, lit, heat, some]
  · simp [litBurner, lit, heat, none]

theorem appearedDue_of_stopped {c : Channel} {g : GasSequencer} {due : Option Due} (stopped : g.countdown = none ∨ g.heat = .ignite ∨
    g.heat = .relightWait ∨ g.heat = .relightSpark) : appearedDue c g due = due := by
  rcases stopped with none | heat | heat | heat
  · simp [appearedDue, none]
  all_goals
    have gone : (litBurner (lit g)).countdown = none := by simp only [litBurner, lit, heat]
    rw [appearedDue, countdownDue_of_none c due gone, ite_self]

theorem appearedDue_of_purge {c : Channel} {g : GasSequencer} {due : Option Due} {w : Countdown} (heat : g.heat = .purge)
    (some : g.countdown = Option.some w) : appearedDue c g due = if w.left ≤ 1 then Option.some (windowEnd c w.window) else due := by
  have kept : (litBurner (lit g)).countdown = Option.some w := by simpa only [litBurner, lit, heat] using some
  rw [appearedDue, countdownDue_of_some c due kept, some]
  rfl

theorem flamePresentStep_eq (c : Channel) (s : State) : flamePresentStep c s =
    { flameAppears c (s.setGas c (lit s.gas[c])) with
      gas := s.gas.set c (appearedBurner s.gas[c])
      event := { s.event with due := appearedDue c s.gas[c] s.event.due } } := by
  have rest := sequencerRest_eq c s.gas[c].countdown.isSome (flameAppears c (s.setGas c (lit s.gas[c])))
  have gas : (flameAppears c (s.setGas c (lit s.gas[c]))).gas = s.gas.set c (litBurner (lit s.gas[c])) := by simp
  have burner : (flameAppears c (s.setGas c (lit s.gas[c]))).gas[c] = litBurner (lit s.gas[c]) := by
    rw [gas]
    exact getElem_set_same _ _ c
  have event : (flameAppears c (s.setGas c (lit s.gas[c]))).event = s.event := by simp
  rw [burner, event, gas, Vector.set_set] at rest
  exact rest

/-- The flags and the Arbiter where the flame's appearance ends an ignition. -/
theorem flameAppears_of_ignite {c : Channel} {s : State} (ignite : s.gas[c].heat = .ignite) :
    (flameAppears c s).asked (.ofChannel .sparkFree c) = true ∧ (flameAppears c s).arbiter.freeOutstanding[c] = true ∧
    onlyStanding c s.arbiter (flameAppears c s).arbiter ∧
    flagOf (flameAppears c s).tx (.ofChannel .spark c) = flagOf s.tx (.ofChannel .spark c) := by
  have asked : ∀ u : State, (raiseSparkFree c u).asked (.ofChannel .sparkFree c) = true := fun u => by
    rw [State.asked, flagOf_raiseSparkFree, if_pos rfl]
    rfl
  have appears : flameAppears c s = raiseSparkFree c (s.setGas c
      { setStep s.gas[c].level s.gas[c] with heat := .proven, spark := false, attempts := 0, countdown := none }) := by
    simp only [flameAppears, ignite]
    exact standingFree_of_freed fun _ => asked _
  rw [appears]
  refine ⟨asked _, ?_, .of_set true (raiseSparkFree_arbiter c _), ?_⟩
  · rw [raiseSparkFree_arbiter]
    exact getElem_set_same _ _ c
  · rw [flagOf_raiseSparkFree, if_neg (by simp)]
    rfl

/-- The flags and the Arbiter where the flame's appearance ends a relight. -/
theorem flameAppears_of_relight {c : Channel} {s : State} (relight : s.gas[c].heat = .relightWait ∨ s.gas[c].heat = .relightSpark) :
    (flameAppears c s).asked (.ofChannel .spark c) = false ∧ onlyStanding c s.arbiter (flameAppears c s).arbiter ∧
    freesQueued c s (flameAppears c s) := by
  obtain ⟨g, appears⟩ : ∃ g, flameAppears c s = standingFree c (lowerFlag (.ofChannel .spark c) (freeIfQueued c (s.setGas c g))) := by
    rcases relight with heat | heat <;> simp only [flameAppears, heat] <;> exact ⟨_, rfl⟩
  have freed : flagOf (lowerFlag (.ofChannel .spark c) (freeIfQueued c (s.setGas c g))).tx (.ofChannel .sparkFree c) =
      flagOf (freeIfQueued c (s.setGas c g)).tx (.ofChannel .sparkFree c) := by
    rw [flagOf_lowerFlag, if_neg (by simp)]
  rw [appears, standingFree_of_freed fun queued => (congrArg Flag.isSet freed).trans (freed_freeIfQueued c _ queued)]
  refine ⟨?_, freeIfQueued_standing c (s.setGas c g), ?_⟩
  · rw [State.asked, flagOf_lowerFlag, if_pos rfl]
    rfl
  · exact (freesQueued_freeIfQueued c (s.setGas c g)).congr rfl rfl rfl rfl freed

theorem flameAppears_of_record {c : Channel} {s : State} (record : s.gas[c].heat = .waitSpark ∨ s.gas[c].heat = .off ∨
    s.gas[c].heat = .lockout ∨ s.gas[c].heat = .purge ∨ s.gas[c].heat = .proven) :
    (flameAppears c s).arbiter = s.arbiter ∧ (flameAppears c s).tx = s.tx := by
  rcases record with heat | heat | heat | heat | heat <;> simp only [flameAppears, heat, strayTest_frame, and_self]

theorem flameAppears_standing (c : Channel) (s : State) : onlyStanding c s.arbiter (flameAppears c s).arbiter := by
  cases heat : s.gas[c].heat
  case ignite => exact (flameAppears_of_ignite heat).2.2.1
  case relightWait => exact (flameAppears_of_relight (.inl heat)).2.1
  case relightSpark => exact (flameAppears_of_relight (.inr heat)).2.1
  all_goals exact .of_eq (flameAppears_of_record (by rw [heat]; simp)).1

/-- Settles O45: what the flame's appearance does, by heat state. -/
theorem flameAppearingProvesTheBurner : Obligations.FlameAppearingProvesTheBurner := by
  intro c s due fits g proven
  have taken : exec (.flameDebouncePresent c) s = .next (goOn (noteReports (setDue none s) (flamePresentStep c (setDue none s)))) :=
    exec_stepCommand_of_due due
  have step := flamePresentStep_eq c (setDue none s)
  have gas : (flamePresentStep c (setDue none s)).gas = s.gas.set c (appearedBurner g) := congrArg State.gas step
  have tx : (flamePresentStep c (setDue none s)).tx = (flameAppears c ((setDue none s).setGas c (lit g))).tx := (congrArg State.tx step :)
  have arbiter : (flamePresentStep c (setDue none s)).arbiter = (flameAppears c ((setDue none s).setGas c (lit g))).arbiter :=
    (congrArg State.arbiter step :)
  have event : (flamePresentStep c (setDue none s)).event = { s.event with due := appearedDue c g none } := congrArg State.event step
  obtain ⟨reports, shown, -⟩ := noteReports_burner (s := setDue none s) (t := flamePresentStep c (setDue none s)) (c := c)
    (p := s.programs[c]) (by simp [setDue]) gas (by simp) (by simp)
  have burner : (noteReports (setDue none s) (flamePresentStep c (setDue none s))).gas[c] = appearedBurner g := by
    rw [(noteReports_frame _ _).2.2.2.2.1, gas]
    exact getElem_set_same _ _ c
  have arbiterAfter : (noteReports (setDue none s) (flamePresentStep c (setDue none s))).arbiter =
      (flameAppears c ((setDue none s).setGas c (lit g))).arbiter := by
    rw [(noteReports_frame _ _).2.2.2.2.2.2.1, arbiter]
  have eventAfter : (noteReports (setDue none s) (flamePresentStep c (setDue none s))).event =
      { s.event with due := appearedDue c g none } := by
    simpa using event
  have flag : ∀ k, k ≠ .state → flagOf (noteReports (setDue none s) (flamePresentStep c (setDue none s))).tx (.ofChannel k c) =
      flagOf (flameAppears c ((setDue none s).setGas c (lit g))).tx (.ofChannel k c) := fun k other => by
    rw [noteReports_flag k c other, tx]
  have only := (flamePresentStep_only c (setDue none s)).after (x := s.tx) rfl
  have heatAt : ((setDue none s).setGas c (lit g)).gas[c].heat = g.heat := (congrArg GasSequencer.heat (getElem_set_same s.gas (lit g) c) :)
  have freed : g.heat = .relightWait ∨ g.heat = .relightSpark →
      freesQueued c s (noteReports (setDue none s) (flamePresentStep c (setDue none s))) := fun heat =>
    (flameAppears_of_relight (s := (setDue none s).setGas c (lit g)) (heatAt ▸ heat)).2.2.congr rfl rfl rfl arbiterAfter (flag .sparkFree (by decide))
  obtain ⟨ignites, relights, waits, records, purges, stays⟩ := appearedBurner_cases g
  refine ⟨_, taken, ?frame, (only.mono fun r hr => ?flags).trans (reports.mono fun r hr => .inr (.inr hr)), fun other => ?due,
    fun heat => ⟨?_, ?_, ?_, ?_⟩, fun heat => ⟨?_, ?_, (freed heat).1, (freed heat).2⟩, fun heat => ?_, fun heat => ?_, fun w heat some => ⟨?_, ?_⟩,
    fun heat => ?_, fun heat => ⟨?_, ?_⟩, fun kind changes => ?_⟩
  case frame =>
    rw [burner, eventAfter, State.eq_iff]
    refine ⟨by simp, by simp, by simp, by simp, ?_, by simp, ?_, by simp, by simp, by simp, rfl, by simp, by simp, by simp,
      eventAfter, by simp⟩
    · rw [(noteReports_frame _ _).2.2.2.2.1, gas]
    · rw [arbiterAfter]
      exact flameAppears_standing c ((setDue none s).setGas c (lit g))
  case flags => exact hr.elim .inl fun h => .inr (.inl h)
  case due =>
    rw [eventAfter]
    refine appearedDue_of_stopped ?_
    cases heat : g.heat
    case ignite => exact .inr (.inl rfl)
    case relightWait => exact .inr (.inr (.inl rfl))
    case relightSpark => exact .inr (.inr (.inr rfl))
    case purge => exact absurd heat other
    all_goals exact .inl (countdown_of_fit fits c (by rw [show s.gas[c].heat = _ from heat]; simp))
  · rw [burner, ignites heat]
    rfl
  · exact (congrArg Flag.isSet (flag .sparkFree (by decide))).trans (flameAppears_of_ignite (heatAt.trans heat)).1
  · rw [arbiterAfter]
    exact (flameAppears_of_ignite (heatAt.trans heat)).2.1
  · exact (flag .spark (by decide)).trans (flameAppears_of_ignite (heatAt.trans heat)).2.2.2
  · rw [burner, relights heat]
    rfl
  · exact (congrArg Flag.isSet (flag .spark (by decide))).trans (flameAppears_of_relight (heatAt ▸ heat)).1
  · rw [burner, waits heat (countdown_of_fit fits c (.inr (.inl heat)))]
    rfl
  · rw [burner, records heat (countdown_of_fit fits c (by rcases heat with heat | heat <;> rw [show s.gas[c].heat = _ from heat] <;> simp))]
    rfl
  · rw [burner, purges w heat some]
    rfl
  · rw [eventAfter]
    have window : w.window = .purge := by
      have fit := fits c
      rw [show s.gas[c].countdown = _ from some, show s.gas[c].heat = _ from heat] at fit
      exact Option.some.inj fit
    exact (appearedDue_of_purge heat some).trans (by rw [window]; rfl)
  · rw [burner, stays heat (countdown_of_fit fits c (.inr (.inr (.inl heat))))]
    rfl
  · exact arbiterAfter.trans (flameAppears_of_record (heatAt ▸ heat)).1
  · refine (onlyFlags.of_eq ?_).trans reports
    exact tx.trans (flameAppears_of_record (heatAt ▸ heat)).2
  · refine shown kind ?_
    rcases changes with heat | heat | heat | ⟨heat, calm⟩
    · exact .inl fun same => GasHeat.noConfusion (((congrArg GasSequencer.heat (ignites heat)).symm.trans same).trans heat)
    · exact .inl fun same => GasHeat.noConfusion (((congrArg GasSequencer.heat (relights (.inl heat))).symm.trans same).trans heat)
    · exact .inl fun same => GasHeat.noConfusion (((congrArg GasSequencer.heat (relights (.inr heat))).symm.trans same).trans heat)
    · have strays := waits heat (countdown_of_fit fits c (.inr (.inl heat)))
      exact .inr fun same => Bool.noConfusion (((congrArg GasSequencer.stray strays).symm.trans same).trans calm)

end Sys2Proof.Machine
end

section
/-!
PROOF. The debounced flame disappears (R106), and steps 2 and 3 of R95 follow.
-/

namespace Sys2Proof.Machine

/-- The burner with a flame just gone. -/
def dark (g : GasSequencer) : GasSequencer := { g with flame := false, run := 0 }

theorem unlitBurner_of_other {s : State} {g : GasSequencer} (other : g.heat ≠ .proven) : unlitBurner s g = g := by
  cases heat : g.heat
  case proven => exact absurd heat other
  all_goals simp only [unlitBurner, heat]

/-- The burner at the end of the event at which its flame disappeared. -/
def vanishedBurner (s : State) (g : GasSequencer) : GasSequencer := restBurner g.countdown.isSome (unlitBurner s (dark g))

/-- What is due at the end of the event at which a flame disappeared. -/
def vanishedDue (c : Channel) (s : State) (g : GasSequencer) (due : Option Due) : Option Due :=
  if g.countdown.isSome then countdownDue c (unlitBurner s (dark g)) due else due

theorem vanishedBurner_of_proven {s : State} {g : GasSequencer} (proven : g.heat = .proven) (none : g.countdown = none) :
    vanishedBurner s g = { dark g with
      heat := .relightWait, step := s.loader.options.ignitionStep, latched := s.loader.options.ignitionStep
      countdown := some (windowOf .relight s.loader.options.relightSeconds s) } := by
  rw [vanishedBurner, restBurner_eq]
  simp [unlitBurner, dark, proven, none, setStep]

theorem vanishedBurner_of_other {s : State} {g : GasSequencer} (other : g.heat ≠ .proven) :
    vanishedBurner s g = { dark g with countdown := g.countdown.map fun w => { w with left := w.left - 1 } } := by
  have kept : unlitBurner s (dark g) = dark g := unlitBurner_of_other other
  rw [vanishedBurner, kept, restBurner_running (running := g.countdown.isSome) (dark g) rfl, if_neg (by exact other), if_neg (by exact other)]
  rfl

theorem vanishedDue_of_none {c : Channel} {s : State} {g : GasSequencer} {due : Option Due} (none : g.countdown = none) :
    vanishedDue c s g due = due := by
  rw [vanishedDue, none]
  rfl

theorem vanishedDue_of_some {c : Channel} {s : State} {g : GasSequencer} {due : Option Due} {w : Countdown} (other : g.heat ≠ .proven)
    (some : g.countdown = Option.some w) :
    vanishedDue c s g due = if w.left ≤ 1 then Option.some (windowEnd c w.window) else due := by
  have kept : unlitBurner s (dark g) = dark g := unlitBurner_of_other other
  rw [vanishedDue, kept, countdownDue_running (running := g.countdown.isSome) c (dark g) due rfl]
  exact countdownDue_of_some (g := dark g) c due some

theorem flameVanishes_of_proven {c : Channel} {s : State} (proven : s.gas[c].heat = .proven) :
    (flameVanishes c s).asked (.ofChannel .spark c) = true ∧
    (flameVanishes c s).counters = { s.counters with flameLosses := saturate s.counters.flameLosses } := by
  constructor
  · simp only [flameVanishes, proven, State.asked, countFlameLoss_frame, flagOf_raiseSpark, if_true]
    rfl
  · simp only [flameVanishes, proven]
    rfl

theorem flameVanishes_of_other {c : Channel} {s : State} (other : s.gas[c].heat ≠ .proven) : flameVanishes c s = s := by
  cases heat : s.gas[c].heat
  case proven => exact absurd heat other
  all_goals simp only [flameVanishes, heat]

theorem flameAbsentStep_eq (c : Channel) (s : State) : flameAbsentStep c s =
    { flameVanishes c (s.setGas c (dark s.gas[c])) with
      gas := s.gas.set c (vanishedBurner s s.gas[c])
      event := { s.event with due := vanishedDue c s s.gas[c] s.event.due } } := by
  have rest := sequencerRest_eq c s.gas[c].countdown.isSome (flameVanishes c (s.setGas c (dark s.gas[c])))
  have gas : (flameVanishes c (s.setGas c (dark s.gas[c]))).gas =
      s.gas.set c (unlitBurner (s.setGas c (dark s.gas[c])) (dark s.gas[c])) := by simp
  have burner : (flameVanishes c (s.setGas c (dark s.gas[c]))).gas[c] = unlitBurner (s.setGas c (dark s.gas[c])) (dark s.gas[c]) := by
    rw [gas]
    exact getElem_set_same _ _ c
  have event : (flameVanishes c (s.setGas c (dark s.gas[c]))).event = s.event := by simp
  rw [burner, event, gas, Vector.set_set] at rest
  exact rest

/-- A report leaves what the step made of the burner. -/
theorem noteReports_gas_at {s t : State} {c : Channel} {g : GasSequencer} (gas : t.gas = s.gas.set c g) :
    (noteReports s t).gas[c] = g := by
  rw [(noteReports_frame _ _).2.2.2.2.1, gas]
  exact getElem_set_same _ _ c

/-- Settles O46: what the flame's loss does, by heat state. -/
theorem flameLossStartsTheRelightWindow : Obligations.FlameLossStartsTheRelightWindow := by
  intro c s due fits g
  have taken : exec (.flameDebounceAbsent c) s = .next (goOn (noteReports (setDue none s) (flameAbsentStep c (setDue none s)))) :=
    exec_stepCommand_of_due due
  have step := flameAbsentStep_eq c (setDue none s)
  have gas : (flameAbsentStep c (setDue none s)).gas = s.gas.set c (vanishedBurner (setDue none s) g) := congrArg State.gas step
  have tx : (flameAbsentStep c (setDue none s)).tx = (flameVanishes c ((setDue none s).setGas c (dark g))).tx :=
    (congrArg State.tx step :)
  have counters : (flameAbsentStep c (setDue none s)).counters = (flameVanishes c ((setDue none s).setGas c (dark g))).counters :=
    (congrArg State.counters step :)
  have event : (flameAbsentStep c (setDue none s)).event = { s.event with due := vanishedDue c (setDue none s) g none } :=
    congrArg State.event step
  obtain ⟨reports, shown, unshown⟩ := noteReports_burner (s := setDue none s) (t := flameAbsentStep c (setDue none s)) (c := c)
    (p := s.programs[c]) (by simp [setDue]) gas (by simp) (by simp)
  have burner := noteReports_gas_at (s := setDue none s) gas
  have eventAfter : (noteReports (setDue none s) (flameAbsentStep c (setDue none s))).event =
      { s.event with due := vanishedDue c (setDue none s) g none } := by
    simpa using event
  have countersAfter : (noteReports (setDue none s) (flameAbsentStep c (setDue none s))).counters =
      (flameVanishes c ((setDue none s).setGas c (dark g))).counters := by
    simpa using counters
  have only := (flameAbsentStep_only c (setDue none s)).after (x := s.tx) rfl
  have heatAt : ((setDue none s).setGas c (dark g)).gas[c].heat = g.heat :=
    (congrArg GasSequencer.heat (getElem_set_same s.gas (dark g) c) :)
  refine ⟨_, taken, ?frame, fun proven => ⟨?_, ?_, fun kind => shown kind (.inl ?_),
    (only.mono fun _ hr => .inl hr).trans (reports.mono fun _ hr => .inr hr), ?_, ?_⟩, fun other => ⟨?_, ?_⟩, fun still => ⟨?_, ?_⟩,
    fun w other some => ⟨?_, ?_⟩⟩
  case frame =>
    rw [burner, eventAfter, State.eq_iff]
    refine ⟨by simp, by simp, by simp, by simp, ?_, by simp, by simp, by simp, by simp, by simp, rfl, rfl, by simp, by simp,
      eventAfter, by simp⟩
    rw [(noteReports_frame _ _).2.2.2.2.1, gas]
  · rw [burner, vanishedBurner_of_proven proven (countdown_of_fit fits c (.inr (.inr (.inl proven))))]
    rfl
  · rw [asked_noteReports_other _ c (by decide)]
    exact (congrArg (fun x => (flagOf x (.ofChannel .spark c)).isSet) tx).trans (flameVanishes_of_proven (heatAt.trans proven)).1
  · intro same
    rw [vanishedBurner_of_proven proven (countdown_of_fit fits c (.inr (.inr (.inl proven))))] at same
    exact GasHeat.noConfusion (same.trans proven)
  · exact countersAfter.trans (flameVanishes_of_proven (heatAt.trans proven)).2
  · rw [eventAfter, vanishedDue_of_none (countdown_of_fit fits c (.inr (.inr (.inl proven))))]
  · rw [unshown rfl (by rw [vanishedBurner_of_other other]; rfl) (by rw [vanishedBurner_of_other other]; rfl), tx,
      flameVanishes_of_other (fun same => other (heatAt.symm.trans same))]
    rfl
  · rw [countersAfter, flameVanishes_of_other (fun same => other (heatAt.symm.trans same))]
    rfl
  · have none : g.countdown = none := countdown_of_fit fits c (still.imp id (Or.imp id .inr))
    have other : g.heat ≠ .proven := by
      rcases still with heat | heat | heat <;> rw [heat] <;> decide
    rw [burner, vanishedBurner_of_other other, none]
    rfl
  · rw [eventAfter, vanishedDue_of_none (countdown_of_fit fits c (still.imp id (Or.imp id .inr)))]
  · rw [burner, vanishedBurner_of_other other, some]
    rfl
  · rw [eventAfter, vanishedDue_of_some other some]
    by_cases ends : w.left ≤ 1
    · rw [if_neg (show ¬ 2 ≤ w.left by omega)]
      refine (if_pos ends).trans ?_
      cases w.window <;> rfl
    · rw [if_pos (show 2 ≤ w.left by omega)]
      exact if_neg ends

end Sys2Proof.Machine
end

section
/-!
PROOF. The ends of the windows: a failed attempt, the purge's end, the lockout (R104, R105, R107, R109, R42).
-/

namespace Sys2Proof.Machine

/-! ## The lockout's report (R42) -/

theorem lockedOutProgram_cases (cause : FaultCode) (p : Program) :
    (p.state = .running ∨ p.state = .held → lockedOutProgram cause p = { p with state := .ended, fault := cause, alert := false }) ∧
    (p.state = .ended → lockedOutProgram cause p = { p with fault := cause }) ∧
    (p.state = .empty ∨ p.state = .ready → lockedOutProgram cause p = p) := by
  refine ⟨?_, fun state => ?_, ?_⟩
  · rintro (state | state) <;> simp only [lockedOutProgram, state]
  · simp only [lockedOutProgram, state]
  · rintro (state | state) <;> simp only [lockedOutProgram, state]

theorem lockoutReport_eq (c : Channel) (cause : FaultCode) (s : State) : lockoutReport c cause s = { s with
    programs := s.programs.set c (lockedOutProgram cause s.programs[c])
    handovers := s.handovers.set c (handedOn s.programs[c] (lockedOutProgram cause s.programs[c]) s.handovers[c]) } := by
  rw [State.eq_iff, lockoutReport]
  simp [updateProgram_handedOn]

/-! ## A burner that stops (R104, R107) -/

/-- The key of channel `c` is to leave the queue, and its burner, its record and the counters are new. -/
def withStop (c : Channel) (g : GasSequencer) (p : Program) (n : Counters) (s : State) : State := { freeIfQueued c s with
  gas := s.gas.set c g
  programs := s.programs.set c p
  handovers := s.handovers.set c (handedOn s.programs[c] p s.handovers[c])
  counters := n }

theorem freeIfQueued_setGas (c : Channel) (g : GasSequencer) (s : State) :
    freeIfQueued c (s.setGas c g) = (freeIfQueued c s).setGas c g := by
  unfold freeIfQueued
  by_cases queued : keyQueued c s = true
  · rw [if_pos queued, if_pos (by exact queued)]
    rfl
  · rw [if_neg queued, if_neg (by exact queued)]

theorem enterLockout_of_freed {c : Channel} {s : State} (cause : FaultCode)
    (freed : keyQueued c s = true → s.asked (.ofChannel .sparkFree c) = true) : enterLockout c cause s =
    lockoutReport c cause (s.setGas c { s.gas[c] with heat := .lockout, valve := false, spark := false, countdown := none }) :=
  congrArg (lockoutReport c cause) (standingFree_of_freed freed)

/-- The record that a failed attempt leaves (R104, R42). -/
def failedProgram (s : State) (g : GasSequencer) (p : Program) : Program :=
  if g.attempts + 1 < s.loader.options.attempts then p else lockedOutProgram .ignitionLockout p

theorem failAttempt_eq (c : Channel) (s : State) : failAttempt c s =
    withStop c (failedBurner s s.gas[c]) (failedProgram s s.gas[c] s.programs[c])
      { s.counters with ignitionFails := saturate s.counters.ignitionFails } s := by
  unfold failAttempt failedBurner failedProgram withStop
  dsimp only
  rw [freeIfQueued_setGas]
  by_cases left : s.gas[c].attempts + 1 < s.loader.options.attempts
  · rw [if_pos left, if_pos left, if_pos left, standingFree_of_freed (by exact freed_freeIfQueued c s), State.eq_iff]
    simp [countIgnitionFail]
  · rw [if_neg left, if_neg left, if_neg left, enterLockout_of_freed _ (by exact freed_freeIfQueued c s), lockoutReport_eq, State.eq_iff]
    simp [countIgnitionFail]

theorem relightEndStep_of_relight {c : Channel} {s : State} (relight : s.gas[c].heat = .relightWait ∨ s.gas[c].heat = .relightSpark) :
    relightEndStep c s = withStop c { s.gas[c] with heat := .lockout, valve := false, spark := false, countdown := none }
      (lockedOutProgram .flameLossLockout s.programs[c]) s.counters s := by
  unfold relightEndStep withStop
  rw [if_pos relight, freeIfQueued_setGas, enterLockout_of_freed _ (by exact freed_freeIfQueued c s), lockoutReport_eq, State.eq_iff]
  simp

section
variable {c : Channel} {g : GasSequencer} {p : Program} {n : Counters} {s : State}

/-- A burner's stop, with its report. -/
theorem noteReports_withStop_frame : noteReports s (withStop c g p n s) = { s with
    gas := s.gas.set c g, programs := s.programs.set c p
    handovers := s.handovers.set c (handedOn s.programs[c] p s.handovers[c])
    tx := (noteReports s (withStop c g p n s)).tx, counters := n
    arbiter := { s.arbiter with
      freeOutstanding := s.arbiter.freeOutstanding.set c (noteReports s (withStop c g p n s)).arbiter.freeOutstanding[c] } } := by
  have arbiter : (noteReports s (withStop c g p n s)).arbiter = (freeIfQueued c s).arbiter := by simp [withStop]
  rw [arbiter, State.eq_iff]
  refine ⟨by simp [withStop], by simp [withStop], by simp [withStop], by simp [withStop], by simp [withStop], by simp [withStop], ?_,
    by simp [withStop], by simp [withStop], by simp [withStop], rfl, by simp [withStop], by simp [withStop], by simp [withStop],
    by simp [withStop], by simp [withStop]⟩
  exact arbiter.trans (freeIfQueued_standing c s)

theorem noteReports_withStop_at : (noteReports s (withStop c g p n s)).gas[c] = g ∧
    (noteReports s (withStop c g p n s)).programs[c] = p ∧ (noteReports s (withStop c g p n s)).counters = n := by
  simp [withStop]

/-- The flags behind a burner's stop. -/
theorem noteReports_withStop_flags :
    onlyFlags (fun r => r = .ofChannel .sparkFree c ∨ r = .ofChannel .state c) s.tx (noteReports s (withStop c g p n s)).tx ∧
    (s.kind c = .gas → g.heat ≠ s.gas[c].heat → (noteReports s (withStop c g p n s)).asked (.ofChannel .state c) = true) ∧
    freesQueued c s (noteReports s (withStop c g p n s)) := by
  obtain ⟨reports, shown, -⟩ := noteReports_burner (s := s) (t := withStop c g p n s) (c := c) (p := p) (g := g) rfl rfl
    (by simp [withStop]) (by simp [withStop])
  have only : onlyFlags (· = .ofChannel .sparkFree c) s.tx (withStop c g p n s).tx := freeIfQueued_only c s
  refine ⟨(only.mono fun _ hr => .inl hr).trans (reports.mono fun _ hr => .inr hr), fun kind differs => shown kind (.inl differs), ?_⟩
  exact (freesQueued_freeIfQueued c s).congr rfl rfl rfl (by simp [withStop]) (noteReports_flag _ c (by decide))

end

/-- A burner whose attempt has failed is in PURGE while attempts are left, else in LOCKOUT. -/
theorem failedBurner_cases (s : State) (g : GasSequencer) (p : Program) :
    (g.attempts + 1 < s.loader.options.attempts → failedProgram s g p = p ∧ failedBurner s g = { g with
      heat := .purge, valve := false, spark := false, attempts := g.attempts + 1
      countdown := some (windowOf .purge s.loader.options.purgeSeconds s) }) ∧
    (s.loader.options.attempts ≤ g.attempts + 1 → failedProgram s g p = lockedOutProgram .ignitionLockout p ∧
      failedBurner s g = { g with heat := .lockout, valve := false, spark := false, attempts := g.attempts + 1, countdown := none }) :=
  ⟨fun left => ⟨if_pos left, if_pos left⟩, fun none => ⟨if_neg (by omega), if_neg (by omega)⟩⟩

theorem failedBurner_heat (s : State) (g : GasSequencer) : (failedBurner s g).heat = .purge ∨ (failedBurner s g).heat = .lockout := by
  unfold failedBurner
  split
  · exact .inl rfl
  · exact .inr rfl

/-- Settles O47: the attempt fails, with PURGE or LOCKOUT. -/
theorem ignitionWindowEndFailsTheAttempt : Obligations.IgnitionWindowEndFailsTheAttempt := by
  intro c s due g p failed
  have taken : exec (.ignitionWindowEnd c) s = .next (goOn (noteReports (setDue none s) (ignitionEndStep c (setDue none s)))) :=
    exec_stepCommand_of_due due
  by_cases ignite : g.heat = .ignite
  · have step : ignitionEndStep c (setDue none s) = withStop c (failedBurner s g) (failedProgram s g p)
        { s.counters with ignitionFails := saturate s.counters.ignitionFails } (setDue none s) :=
      (if_pos ignite).trans (failAttempt_eq c (setDue none s))
    rw [step] at taken
    obtain ⟨gasAt, programAt, countersAt⟩ := noteReports_withStop_at (c := c) (g := failedBurner s g) (p := failedProgram s g p)
      (n := { s.counters with ignitionFails := saturate s.counters.ignitionFails }) (s := setDue none s)
    obtain ⟨only, shown, freed⟩ := noteReports_withStop_flags (c := c) (g := failedBurner s g) (p := failedProgram s g p)
      (n := { s.counters with ignitionFails := saturate s.counters.ignitionFails }) (s := setDue none s)
    have differs : (failedBurner s g).heat ≠ g.heat := by
      rcases failedBurner_heat s g with heat | heat <;> rw [heat, ignite] <;> decide
    obtain ⟨purge, lockout⟩ := failedBurner_cases s g p
    obtain ⟨ends, keepsEnded, keeps⟩ := lockedOutProgram_cases .ignitionLockout p
    refine ⟨_, taken, ?_, fun other => absurd ignite other, fun _ => ⟨only, countersAt, fun kind => shown kind differs, freed.1, freed.2,
      fun left => ⟨programAt.trans (purge left).1, gasAt.trans (purge left).2⟩, fun none => ?_⟩⟩
    · rw [gasAt, programAt, countersAt]
      exact noteReports_withStop_frame
    · have record := programAt.trans (lockout none).1
      exact ⟨gasAt.trans (lockout none).2, fun state => record.trans (ends state), fun state => record.trans (keepsEnded state),
        fun state => record.trans (keeps state)⟩
  · have step : ignitionEndStep c (setDue none s) = setDue none s := if_neg ignite
    rw [step, noteReports_self] at taken
    refine ⟨_, taken, ?_, fun _ => rfl, fun heat => absurd heat ignite⟩
    rw [State.eq_iff]
    simp [setDue, p]

/-- Settles O48: the purge's end asks for the spark again, the relight's end locks out. -/
theorem purgeAndRelightWindowsEnd : Obligations.PurgeAndRelightWindowsEnd := by
  intro c s g p
  refine ⟨fun due => ?_, fun due => ?_⟩
  · have taken : exec (.purgeEnd c) s = .next (goOn (noteReports (setDue none s) (purgeEndStep c (setDue none s)))) :=
      exec_stepCommand_of_due due
    by_cases purge : g.heat = .purge
    · have step : purgeEndStep c (setDue none s) = enterWaitSpark c (setDue none s) := if_pos purge
      rw [step] at taken
      have gas := enterWaitSpark_gas c (setDue none s)
      obtain ⟨reports, shown, -⟩ := noteReports_burner (s := setDue none s) (t := enterWaitSpark c (setDue none s)) (c := c)
        (p := p) (by simp [p, setDue]) gas (by simp) (by simp)
      have burner := noteReports_gas_at (s := setDue none s) gas
      have only := (enterWaitSpark_only c (setDue none s)).after (x := s.tx) rfl
      refine ⟨_, taken, ?_, fun other => absurd purge other, fun _ => ⟨burner,
        (only.mono fun _ hr => .inl hr).trans (reports.mono fun _ hr => .inr hr), ?_, fun kind => shown kind (.inl ?_)⟩⟩
      · rw [burner, State.eq_iff]
        simp [setDue]
      · rw [asked_noteReports_other _ c (by decide)]
        exact (enterWaitSpark_flags c _).1
      · exact fun same => GasHeat.noConfusion (same.trans purge)
    · have step : purgeEndStep c (setDue none s) = setDue none s := if_neg purge
      rw [step, noteReports_self] at taken
      refine ⟨_, taken, ?_, fun _ => ⟨rfl, rfl⟩, fun heat => absurd heat purge⟩
      rw [State.eq_iff]
      simp [setDue]
  · have taken : exec (.relightWindowEnd c) s = .next (goOn (noteReports (setDue none s) (relightEndStep c (setDue none s)))) :=
      exec_stepCommand_of_due due
    by_cases relight : g.heat = .relightWait ∨ g.heat = .relightSpark
    · have step : relightEndStep c (setDue none s) = withStop c { g with heat := .lockout, valve := false, spark := false, countdown := none }
          (lockedOutProgram .flameLossLockout p) s.counters (setDue none s) := relightEndStep_of_relight relight
      rw [step] at taken
      obtain ⟨gasAt, programAt, countersAt⟩ := noteReports_withStop_at (c := c) (s := setDue none s) (n := s.counters)
        (g := { g with heat := .lockout, valve := false, spark := false, countdown := none })
        (p := lockedOutProgram .flameLossLockout p)
      obtain ⟨only, shown, freed⟩ := noteReports_withStop_flags (c := c) (s := setDue none s) (n := s.counters)
        (g := { g with heat := .lockout, valve := false, spark := false, countdown := none })
        (p := lockedOutProgram .flameLossLockout p)
      obtain ⟨ends, keepsEnded, keeps⟩ := lockedOutProgram_cases .flameLossLockout p
      refine ⟨_, taken, ?_, fun other still => (relight.elim other still).elim, fun _ => ⟨gasAt, only, fun kind => shown kind ?_,
        freed.1, freed.2, fun state => programAt.trans (ends state), fun state => programAt.trans (keepsEnded state),
        fun state => programAt.trans (keeps state)⟩⟩
      · rw [gasAt, programAt]
        exact noteReports_withStop_frame
      · intro same
        rcases relight with heat | heat <;> exact GasHeat.noConfusion (same.trans heat)
    · have step : relightEndStep c (setDue none s) = setDue none s := if_neg relight
      rw [step, noteReports_self] at taken
      refine ⟨_, taken, ?_, fun _ _ => rfl, fun heat => absurd heat relight⟩
      rw [State.eq_iff]
      simp [setDue, p]

end Sys2Proof.Machine
end

section
/-!
PROOF. The Spark Arbiter's dwell and the hold limit (R100, R111).
-/

namespace Sys2Proof.Machine

theorem takeDwell_eq {s : State} (queued : s.arbiter.queue ≠ []) : takeDwell s = { s with
    arbiter := { s.arbiter with dwell := s.arbiter.dwell + 1 }
    event := { s.event with due := if 10 * s.base.eventRate ≤ s.arbiter.dwell + 1 then some .holdLimit else s.event.due } } := by
  unfold takeDwell
  rw [if_neg queued]
  by_cases limit : 10 * s.base.eventRate ≤ s.arbiter.dwell + 1
  · simp only [if_pos limit]
    rfl
  · simp only [if_neg limit]
    rfl

/-! ## The head leaves the queue -/

/-- The node without the head of its spark queue. -/
def headless (k : Key) (rest : List Key) (s : State) : State := { s with arbiter := { s.arbiter with
  queue := rest, dwell := 0
  freeOutstanding := if k.station = s.loader.options.address then s.arbiter.freeOutstanding.set k.channel false
    else s.arbiter.freeOutstanding } }

section
variable {k : Key} {rest : List Key} {s : State}

theorem head_absent (queue : s.arbiter.queue = k :: rest) (unique : s.queueUnique) : k ∉ rest := by
  have nodup : (k :: rest).Nodup := queue ▸ unique
  exact (List.nodup_cons.mp nodup).1

theorem removeKey_of_head (queue : s.arbiter.queue = k :: rest) (unique : s.queueUnique) : removeKey k s = headless k rest s := by
  have absent := head_absent queue unique
  have here : k ∈ s.arbiter.queue := by rw [queue]; exact List.mem_cons_self
  have left : (s.arbiter.queue.filter fun x => x ≠ k) = rest := by
    rw [queue, List.filter_cons_of_neg (by simp), List.filter_eq_self]
    intro x hx
    exact decide_eq_true fun same => absent (same ▸ hx)
  have newHead : rest.head? ≠ s.arbiter.queue.head? := by
    rw [queue]
    exact fun same => absent (List.mem_of_mem_head? same)
  unfold removeKey headless
  rw [if_pos here, left]
  by_cases own : k.station = s.loader.options.address
  · simp only [if_pos own]
    simp only [setQueue, if_neg newHead]
    rfl
  · simp only [if_neg own]
    simp only [setQueue, if_neg newHead]
    rfl

theorem holdLimitStep_of_head (queue : s.arbiter.queue = k :: rest) (unique : s.queueUnique) : holdLimitStep s =
    if k.station = s.loader.options.address then keyLost k.channel (headless k rest (countSparkConflict s))
    else headless k rest (countSparkConflict s) := by
  have here : k ∈ s.arbiter.queue := by rw [queue]; exact List.mem_cons_self
  have removed := removeKey_of_head (s := countSparkConflict s) queue unique
  have drop : holdLimitStep s = dropKey k (countSparkConflict s) := by
    unfold holdLimitStep
    rw [queue]
  rw [drop, dropKey, removed]
  by_cases own : k.station = s.loader.options.address
  · rw [if_pos own, if_pos ⟨here, own⟩]
  · rw [if_neg own, if_neg fun h => own h.2]

end

/-! ## What the loss of its key does to a channel (R111) -/

section
variable {c : Channel} {s : State}

theorem keyLost_of_idle (idle : s.kind c ≠ .gas ∨ s.gas[c].heat = .off ∨ s.gas[c].heat = .proven ∨ s.gas[c].heat = .purge ∨
    s.gas[c].heat = .lockout) : keyLost c s = s := by
  unfold keyLost
  rcases idle with other | heat | heat | heat | heat
  · exact if_neg other
  all_goals
    rw [heat]
    exact ite_self s

theorem keyLost_of_waiting (gas : s.kind c = .gas) (waits : s.gas[c].heat = .waitSpark ∨ s.gas[c].heat = .relightWait) :
    keyLost c s = raiseSpark c s := by
  rcases waits with heat | heat <;> simp only [keyLost, gas, heat, if_true]

theorem keyLost_of_relightSpark (gas : s.kind c = .gas) (relight : s.gas[c].heat = .relightSpark) :
    keyLost c s = raiseSpark c (s.setGas c { s.gas[c] with heat := .relightWait, spark := false }) := by
  simp only [keyLost, gas, relight, if_true]

theorem freeIfQueued_of_absent (absent : s.ownKey c ∉ s.arbiter.queue) : freeIfQueued c s = s :=
  if_neg (mt (keyQueued_iff c s).mp absent)

theorem keyLost_of_ignite (gas : s.kind c = .gas) (ignite : s.gas[c].heat = .ignite) (absent : s.ownKey c ∉ s.arbiter.queue) :
    keyLost c s = { s with
      gas := s.gas.set c (failedBurner s s.gas[c])
      programs := s.programs.set c (failedProgram s s.gas[c] s.programs[c])
      handovers := s.handovers.set c (handedOn s.programs[c] (failedProgram s s.gas[c] s.programs[c]) s.handovers[c])
      counters := { s.counters with ignitionFails := saturate s.counters.ignitionFails } } := by
  have fails : keyLost c s = failAttempt c s := by simp only [keyLost, gas, ignite, if_true]
  rw [fails, failAttempt_eq, withStop, freeIfQueued_of_absent absent]

/-- What the loss of a key may touch. -/
theorem keyLost_touches (absent : s.ownKey c ∉ s.arbiter.queue) : (keyLost c s).arbiter = s.arbiter ∧
    (∃ g, (keyLost c s).gas = s.gas.set c g) ∧
    ∃ p, (keyLost c s).programs = s.programs.set c p ∧ (keyLost c s).handovers = s.handovers.set c (handedOn s.programs[c] p s.handovers[c]) := by
  have kept : ∀ t : State, t.programs = s.programs → t.handovers = s.handovers → ∃ p, t.programs = s.programs.set c p ∧
      t.handovers = s.handovers.set c (handedOn s.programs[c] p s.handovers[c]) := fun t programs handovers =>
    ⟨s.programs[c], by rw [programs, set_channel_self], by rw [handovers, handedOn_self, set_channel_self]⟩
  by_cases gas : s.kind c = .gas
  · cases heat : s.gas[c].heat
    case waitSpark =>
      rw [keyLost_of_waiting gas (.inl heat)]
      exact ⟨rfl, ⟨_, (set_channel_self s.gas c).symm⟩, kept _ rfl rfl⟩
    case relightWait =>
      rw [keyLost_of_waiting gas (.inr heat)]
      exact ⟨rfl, ⟨_, (set_channel_self s.gas c).symm⟩, kept _ rfl rfl⟩
    case relightSpark =>
      rw [keyLost_of_relightSpark gas heat]
      exact ⟨rfl, ⟨_, rfl⟩, kept _ rfl rfl⟩
    case ignite =>
      rw [keyLost_of_ignite gas heat absent]
      exact ⟨rfl, ⟨_, rfl⟩, ⟨_, rfl, rfl⟩⟩
    all_goals
      rw [keyLost_of_idle (by rw [heat]; simp)]
      exact ⟨rfl, ⟨_, (set_channel_self s.gas c).symm⟩, kept _ rfl rfl⟩
  · rw [keyLost_of_idle (.inl gas)]
    exact ⟨rfl, ⟨_, (set_channel_self s.gas c).symm⟩, kept _ rfl rfl⟩

end

/-- Settles O49: the dwell counts half-cycles, and the hold limit removes the head, which acts on an own channel. -/
theorem holdLimitRemovesTheHead : Obligations.HoldLimitRemovesTheHead := by
  refine ⟨fun s => ⟨fun empty => if_pos empty, fun queued => takeDwell_eq queued⟩, fun k rest s due queue unique => ?_⟩
  intro conflict g p own
  have taken : exec .holdLimit s = .next (goOn (noteReports (setDue none s) (holdLimitStep (setDue none s)))) :=
    exec_stepCommand_of_due due
  have step := holdLimitStep_of_head (s := setDue none s) queue unique
  have quiet : noteReports (setDue none s) (headless k rest (countSparkConflict (setDue none s))) =
      headless k rest (countSparkConflict (setDue none s)) := noteReports_of_same fun _ => rfl
  by_cases mine : own
  case neg =>
    rw [step, if_neg (by exact mine), quiet] at taken
    refine ⟨_, taken, fun _ => ?_, fun h => absurd h mine, fun h => absurd h mine, fun h => absurd h mine, fun h => absurd h mine⟩
    unfold headless
    rw [if_neg (by exact mine)]
    rfl
  rw [step, if_pos (by exact mine)] at taken
  have key : (headless k rest (countSparkConflict (setDue none s))).ownKey k.channel = k :=
    congrArg (fun a => ({ station := a, channel := k.channel } : Key)) (Eq.symm mine)
  have absent : (headless k rest (countSparkConflict (setDue none s))).ownKey k.channel ∉
      (headless k rest (countSparkConflict (setDue none s))).arbiter.queue := by
    rw [key]
    exact head_absent queue unique
  have kept : s.gas = s.gas.set k.channel g := (set_channel_self s.gas k.channel).symm
  have recorded : s.programs = s.programs.set k.channel p := (set_channel_self s.programs k.channel).symm
  refine ⟨_, taken, fun foreign => absurd mine foreign, fun _ => ?frame, fun _ gas waits => ?waits, fun _ gas ignite => ?ignite,
    fun _ idle => ?idle⟩
  case frame =>
    obtain ⟨arbiter, ⟨x, gases⟩, q, programs, handovers⟩ := keyLost_touches absent
    have gasAt := noteReports_gas_at (s := setDue none s) gases
    have programAt : (noteReports (setDue none s)
        (keyLost k.channel (headless k rest (countSparkConflict (setDue none s))))).programs[k.channel] = q := by
      rw [(noteReports_frame _ _).2.1, programs]
      exact getElem_set_same _ _ k.channel
    rw [gasAt, programAt, State.eq_iff]
    refine ⟨by simp [headless, countSparkConflict], ?_, ?_, by simp [headless, countSparkConflict], ?_, by simp [headless, countSparkConflict],
      ?_, by simp [headless, countSparkConflict], by simp [headless, countSparkConflict], by simp [headless, countSparkConflict], rfl, rfl,
      by simp [headless, countSparkConflict], by simp [headless, countSparkConflict], by simp [headless, countSparkConflict, setDue],
      by simp [headless, countSparkConflict]⟩
    · rw [(noteReports_frame _ _).2.1, programs]
      rfl
    · rw [(noteReports_frame _ _).2.2.1, handovers]
      rfl
    · rw [(noteReports_frame _ _).2.2.2.2.1, gases]
      rfl
    · rw [(noteReports_frame _ _).2.2.2.2.2.2.1, arbiter]
      unfold headless
      rw [if_pos (by exact mine)]
      rfl
  case idle =>
    rw [keyLost_of_idle (by exact idle), quiet]
    exact ⟨rfl, rfl, rfl, rfl⟩
  case ignite =>
    have lost := keyLost_of_ignite (by exact gas) (by exact ignite) absent
    obtain ⟨reports, shown, -⟩ := noteReports_burner (s := setDue none s) (c := k.channel)
      (t := keyLost k.channel (headless k rest (countSparkConflict (setDue none s)))) (g := failedBurner s g) (p := failedProgram s g p)
      (by rw [lost]; rfl) (by rw [lost]; rfl) (by rw [lost]; rfl) (by rw [lost]; rfl)
    have differs : (failedBurner s g).heat ≠ g.heat := by
      rcases failedBurner_heat s g with heat | heat <;> rw [heat, ignite] <;> decide
    have burner := noteReports_gas_at (s := setDue none s)
      (show (keyLost k.channel (headless k rest (countSparkConflict (setDue none s)))).gas = s.gas.set k.channel (failedBurner s g) by
        rw [lost]; rfl)
    have record : (noteReports (setDue none s)
        (keyLost k.channel (headless k rest (countSparkConflict (setDue none s))))).programs[k.channel] = failedProgram s g p := by
      rw [(noteReports_frame _ _).2.1, lost]
      exact getElem_set_same s.programs _ k.channel
    have counters : (noteReports (setDue none s) (keyLost k.channel (headless k rest (countSparkConflict (setDue none s))))).counters =
        { conflict with ignitionFails := saturate s.counters.ignitionFails } := by
      simp only [noteReports_frame, lost]
      rfl
    have only : onlyFlags (· = .ofChannel .state k.channel) s.tx
        (keyLost k.channel (headless k rest (countSparkConflict (setDue none s)))).tx := .of_eq (by rw [lost]; rfl)
    obtain ⟨purge, lockout⟩ := failedBurner_cases s g p
    obtain ⟨ends, keepsEnded, keeps⟩ := lockedOutProgram_cases .ignitionLockout p
    refine ⟨counters, shown gas (.inl differs), only.trans reports, fun left => ⟨record.trans (purge left).1, burner.trans (purge left).2⟩,
      fun none => ?_⟩
    have locked := record.trans (lockout none).1
    exact ⟨burner.trans (lockout none).2, fun state => locked.trans (ends state), fun state => locked.trans (keepsEnded state),
      fun state => locked.trans (keeps state)⟩
  case waits =>
    by_cases relight : g.heat = .relightSpark
    · have lost := keyLost_of_relightSpark (s := headless k rest (countSparkConflict (setDue none s))) (by exact gas) (by exact relight)
      rw [lost]
      obtain ⟨reports, shown, -⟩ := noteReports_burner (s := setDue none s) (c := k.channel)
        (t := raiseSpark k.channel ((headless k rest (countSparkConflict (setDue none s))).setGas k.channel
          { g with heat := .relightWait, spark := false })) (p := p) recorded rfl rfl rfl
      have only := (raiseSpark_only k.channel ((headless k rest (countSparkConflict (setDue none s))).setGas k.channel
          { g with heat := .relightWait, spark := false })).after (x := s.tx) rfl
      rw [if_pos relight]
      refine ⟨?_, ?_, ?_, (only.mono fun _ hr => .inl hr).trans (reports.mono fun _ hr => .inr ⟨relight, hr⟩), ?_,
        fun _ => shown gas (.inl fun same => GasHeat.noConfusion (same.trans relight))⟩
      · rw [asked_noteReports_other _ _ (by decide), State.asked, flagOf_raiseSpark, if_pos rfl]
        rfl
      · rw [(noteReports_frame _ _).2.1]
        rfl
      · simp only [noteReports_frame]
        rfl
      · exact noteReports_gas_at rfl
    · have lost := keyLost_of_waiting (s := headless k rest (countSparkConflict (setDue none s))) (by exact gas)
        (by exact waits.imp id fun h => h.resolve_right relight)
      have silent : noteReports (setDue none s) (raiseSpark k.channel (headless k rest (countSparkConflict (setDue none s)))) =
          raiseSpark k.channel (headless k rest (countSparkConflict (setDue none s))) := noteReports_of_same fun _ => rfl
      rw [lost, silent, if_neg relight]
      refine ⟨?_, rfl, rfl, ?_, rfl, fun h => absurd h relight⟩
      · rw [State.asked, flagOf_raiseSpark, if_pos rfl]
        rfl
      · exact ((raiseSpark_only k.channel (headless k rest (countSparkConflict (setDue none s)))).after (x := s.tx) rfl).mono
          fun _ hr => .inl hr

end Sys2Proof.Machine
end

section
/-!
PROOF. SPARK and SPARK-FREE (R97): a key joins the queue, a key leaves it, the standing rule (R112).
-/

namespace Sys2Proof.Machine

section
variable {k : Key} {s : State}

/-- A key joins at the tail unless it is queued; only a first key begins a dwell. -/
theorem appendKey_arbiter (k : Key) (s : State) : (appendKey k s).arbiter = { s.arbiter with
    queue := if k ∈ s.arbiter.queue then s.arbiter.queue else s.arbiter.queue ++ [k]
    dwell := if s.arbiter.queue = [] then 0 else s.arbiter.dwell } := by
  unfold appendKey
  by_cases here : k ∈ s.arbiter.queue
  · rw [if_pos here, if_pos here, if_neg (List.ne_nil_of_mem here)]
  · rw [if_neg here, if_neg here]
    cases queue : s.arbiter.queue with
    | nil => simp [setQueue, queue]
    | cons head rest => simp [setQueue, queue]

theorem removeKey_dwell (k : Key) (s : State) : (s.arbiter.queue.head? = some k → (removeKey k s).arbiter.dwell = 0) ∧
    (s.arbiter.queue.head? ≠ some k → (removeKey k s).arbiter.dwell = s.arbiter.dwell) := by
  have dwell : k ∈ s.arbiter.queue → (removeKey k s).arbiter.dwell = (setQueue (s.arbiter.queue.filter fun x => x ≠ k) s).arbiter.dwell := by
    intro here
    unfold removeKey
    rw [if_pos here]
    by_cases own : k.station = s.loader.options.address
    · simp only [if_pos own]
      rfl
    · simp only [if_neg own]
  refine ⟨fun head => ?_, fun other => ?_⟩
  · have newHead : (s.arbiter.queue.filter fun x => x ≠ k).head? ≠ s.arbiter.queue.head? := by
      rw [head]
      intro same
      simpa using (List.mem_filter.mp (List.mem_of_mem_head? same)).2
    rw [dwell (List.mem_of_mem_head? head)]
    exact if_neg newHead
  · by_cases here : k ∈ s.arbiter.queue
    · rw [dwell here]
      cases queue : s.arbiter.queue with
      | nil => simp [queue] at here
      | cons head rest =>
        have differs : head ≠ k := by simpa [queue] using other
        simp [setQueue, queue, differs]
    · unfold removeKey
      rw [if_neg here]

theorem removeKey_foreign (foreign : k.station ≠ s.loader.options.address) :
    (removeKey k s).arbiter.freeOutstanding = s.arbiter.freeOutstanding := by
  unfold removeKey
  simp only [if_neg foreign]
  split <;> rfl

theorem removeKey_own (cleared : s.arbiter.freeOutstanding[k.channel] = false) :
    (removeKey k s).arbiter.freeOutstanding = s.arbiter.freeOutstanding := by
  have same : s.arbiter.freeOutstanding.set k.channel false = s.arbiter.freeOutstanding := by
    rw [← cleared]
    exact set_channel_self _ _
  unfold removeKey
  split
  · by_cases own : k.station = s.loader.options.address
    · simp only [if_pos own]
      exact same
    · simp only [if_neg own]
      rfl
  · rfl

theorem standingFree_standing (c : Channel) (s : State) : onlyStanding c s.arbiter (standingFree c s).arbiter := by
  unfold standingFree
  split
  · exact .of_set true (raiseSparkFree_arbiter c s)
  · exact .of_eq rfl

theorem standingFree_of_wanted {c : Channel} (wanted : wantsSpark s.gas[c].heat = true) : standingFree c s = s :=
  if_neg fun standing => Bool.false_ne_true (standing.2.2.1.symm.trans wanted)

end

/-! ## The notices -/

section
variable {f : RxFrame} {k : Key} {s : State}

theorem takeSpark_of_key (key : keyOf f.source (charAt f.body 0).toNat = some k) : takeSpark f s =
    if s.isOwn f.source then standingFree k.channel (appendKey k (clearOutstanding k.channel s)) else appendKey k s := by
  unfold takeSpark
  rw [key]

theorem takeSparkFree_of_key (key : keyOf f.source (charAt f.body 0).toNat = some k) : takeSparkFree f s =
    if s.isOwn f.source then removeKey k (clearOutstanding k.channel s) else removeKey k s := by
  unfold takeSparkFree
  rw [key]

end

/-- Settles O50: what is only removed, what joins the queue and what leaves it. -/
theorem sparkNoticesMoveKeysInTheQueue : Obligations.SparkNoticesMoveKeysInTheQueue := by
  intro f rest k s
  refine ⟨fun delivers none => ?_, fun delivers none => ?_, fun station channel => ⟨fun delivers => ?spark, fun delivers => ?free⟩⟩
  · rw [exec_delivery rfl delivers, takeSpark, keyOf_of_none none]
  · rw [exec_delivery rfl delivers, takeSparkFree, keyOf_of_none none]
  case spark =>
    have key : keyOf f.source (charAt f.body 0).toNat = some k := keyOf_of_node station channel
    have taken := exec_delivery (c := .spark) (g := takeSpark) rfl delivers
    rw [takeSpark_of_key key] at taken
    by_cases own : s.isOwn f.source = true
    · have ownKey : s.ownKey k.channel = k := by
        have address : s.loader.options.address = k.station := Fin.ext (((isOwn_iff s f.source).mp own).symm.trans station.symm)
        rw [State.ownKey, address]
      rw [if_pos (by exact own)] at taken
      have joined := appendKey_arbiter k (clearOutstanding k.channel (s.popped rest))
      have standing := standingFree_standing k.channel (appendKey k (clearOutstanding k.channel (s.popped rest)))
      rw [onlyStanding, joined] at standing
      have gases : (appendKey k (clearOutstanding k.channel (s.popped rest))).gas = s.gas := by simp [State.popped]
      have loader : (appendKey k (clearOutstanding k.channel (s.popped rest))).loader = s.loader := by simp [State.popped]
      refine ⟨_, taken, ?_, ?_, ?_, fun other => absurd own (Bool.eq_false_iff.mp other), fun _ => ⟨fun d other => ?_, ?_, fun wanted => ?_,
        fun gas unwanted => ?_⟩⟩
      · rw [State.eq_iff]
        simp
      · rw [standing]
        rfl
      · rw [standing]
        rfl
      · rw [standing]
        exact (getElem_set_other _ _ other).trans (getElem_set_other _ _ other)
      · exact (standingFree_only k.channel _).after (by simp [State.popped])
      · rw [standingFree_of_wanted (by rw [gases]; exact wanted), joined]
        exact ⟨by simp [State.popped], getElem_set_same _ _ k.channel⟩
      · refine standingFree_asks (by rw [State.kind, loader]; exact gas) ?_ (by rw [gases]; exact unwanted)
        rw [keyQueued_iff, State.ownKey, loader, show ({ station := s.loader.options.address, channel := k.channel } : Key) = k from ownKey,
          appendKey_queue]
        split
        next here => exact here
        next => exact List.mem_append_right _ (List.mem_singleton_self k)
    · rw [if_neg (by exact own)] at taken
      have joined := appendKey_arbiter k (s.popped rest)
      refine ⟨_, taken, ?_, ?_, ?_, fun _ => ⟨by simp [State.popped], ?_⟩, fun other => absurd other own⟩
      · rw [State.eq_iff]
        simp
      all_goals
        rw [joined]
        rfl
  case free =>
    have key : keyOf f.source (charAt f.body 0).toNat = some k := keyOf_of_node station channel
    have taken := exec_delivery (c := .sparkFree) (g := takeSparkFree) rfl delivers
    rw [takeSparkFree_of_key key] at taken
    by_cases own : s.isOwn f.source = true
    · rw [if_pos (by exact own)] at taken
      obtain ⟨head, other⟩ := removeKey_dwell k (clearOutstanding k.channel (s.popped rest))
      refine ⟨_, taken, ?_, ?_, head, other, fun foreign => absurd own (Bool.eq_false_iff.mp foreign), fun _ => ?_⟩
      · rw [State.eq_iff]
        simp
      · rw [removeKey_queue]
        rfl
      · exact removeKey_own (getElem_set_same _ _ k.channel)
    · rw [if_neg (by exact own)] at taken
      obtain ⟨head, other⟩ := removeKey_dwell k (s.popped rest)
      refine ⟨_, taken, ?_, ?_, head, other, fun _ => removeKey_foreign fun same => ?_, fun mine => absurd mine own⟩
      · rw [State.eq_iff]
        simp
      · rw [removeKey_queue]
        rfl
      · exact own ((isOwn_iff s f.source).mpr (station.symm.trans (congrArg Fin.val same)))

end Sys2Proof.Machine
end

section
/-!
PROOF. The entry into RUN and the presence count (R128, R162, R174).
-/

namespace Sys2Proof.Machine

theorem takeListen_of_counting {s : State} (start : s.base.phase = 0) (listens : s.loader.node = .listen) : takeListen s = { s with
    loader := { s.loader with listenCount := s.loader.listenCount + 1 }
    event := { s.event with due := if 8 ≤ s.loader.listenCount + 1 then some .listenEnd else s.event.due } } := by
  have counts : ¬ (s.base.phase ≠ 0 ∨ s.loader.node ≠ .listen) := by simp [start, listens]
  unfold takeListen
  rw [if_neg counts]
  by_cases ends : 8 ≤ s.loader.listenCount + 1
  · simp only [if_pos ends]
    rfl
  · simp only [if_neg ends]
    rfl

theorem takePresenceCount_of_counting {s : State} (start : s.base.phase = 0) (run : s.inRun = true) : takePresenceCount s = { s with
    peers := { s.peers with presenceCount := s.peers.presenceCount + 1 }
    event := { s.event with
      due := if s.loader.options.interval ≤ s.peers.presenceCount + 1 then some .presenceDue else s.event.due } } := by
  have counts : ¬ (s.base.phase ≠ 0 ∨ s.inRun = false) := by simp [start, run]
  unfold takePresenceCount
  rw [if_neg counts]
  by_cases ends : s.loader.options.interval ≤ s.peers.presenceCount + 1
  · simp only [if_pos ends]
    rfl
  · simp only [if_neg ends]
    rfl

/-- Every used channel's report is asked for. -/
theorem reportAllUsed_asks {s : State} {c : Channel} (used : s.used c = true) :
    (reportAllUsed s).asked (.ofChannel .state c) = true := by
  have slot : sameSlot c (if s.used c then raiseState c s else s) (reportAllUsed s) := by
    refine foldl_channels_slot (f := fun t c => if t.used c then raiseState c t else t) (fun c d u other => ?_)
      (fun c u v same => ?_) c s
    · split
      · exact raiseState_other u other
      · exact .refl c u
    · rw [same.used]
      split
      · exact same.after_raiseState
      · exact same
  rw [if_pos used] at slot
  rw [State.asked, slot.flags, flagOf_raiseState, if_pos rfl]
  rfl

theorem enterRun_asks (s : State) : (enterRun s).asked .presence = true ∧
    ∀ c : Channel, s.used c = true → (enterRun s).asked (.ofChannel .state c) = true := by
  refine ⟨?_, fun c used => reportAllUsed_asks used⟩
  have flag := (reportAllUsed_only (raiseFlag .presence ((s.setLoader { s.loader with node := .run }).setPeers
    { s.peers with presenceCount := 0 }))).flag (r := .presence) (by simp)
  rw [State.asked, enterRun, flag, flagOf_raiseFlag, if_pos rfl]
  rfl

/-- Settles O55: LISTEN's burst starts lead into RUN, and RUN's to the next PRESENCE. -/
theorem listenEndsInRunAndPresenceFallsDue : Obligations.ListenEndsInRunAndPresenceFallsDue := by
  intro s n m
  refine ⟨fun none => if_pos none, fun start listens => takeListen_of_counting start listens, fun none => if_pos none,
    fun start run => takePresenceCount_of_counting start run, fun due => ?_, fun due => ?_⟩
  · have taken : exec .listenCountEnd s = .next (goOn (enterRun (setDue none s))) := exec_stepCommand_of_due due
    obtain ⟨presence, states⟩ := enterRun_asks (setDue none s)
    refine ⟨_, taken, ?_, presence, states, (enterRun_only (setDue none s)).after rfl⟩
    rw [State.eq_iff]
    simp [enterRun, setDue]
  · have taken : exec .presenceCountDue s = .next (goOn (presenceDueStep (setDue none s))) := exec_stepCommand_of_due due
    refine ⟨_, taken, ?_, ?_, (presenceDueStep_only (setDue none s)).after rfl⟩
    · rw [State.eq_iff]
      simp [presenceDueStep, setDue]
    · rw [presenceDueStep, State.asked, flagOf_raiseFlag, if_pos rfl]
      rfl

end Sys2Proof.Machine
end

section
/-!
PROOF. The derived values of the Peer Table (R56, R120, R124, R126, R127).
-/

namespace Sys2Proof.Machine

/-! ## The peer nodes that are present -/

theorem mem_presentNodes (s : State) (a : Station) : a ∈ presentNodes s ↔ s.nodePresent a := by
  have all : ∀ b : Station, b ∈ allStations := by decide
  simp [presentNodes, State.isOwn, all, and_assoc]

theorem presentNodes_head_le {s : State} {a : Station} {l : List Station} (nodes : presentNodes s = a :: l) {b : Station}
    (present : s.nodePresent b) : a.val ≤ b.val := by
  have ascending : allStations.Pairwise (· ≤ ·) := by decide
  have sorted : (presentNodes s).Pairwise (· ≤ ·) := ascending.filter _
  rw [nodes] at sorted
  have mem : b ∈ a :: l := nodes ▸ (mem_presentNodes s b).mpr present
  rcases List.mem_cons.mp mem with same | later
  · exact Nat.le_of_eq (congrArg Fin.val same.symm)
  · exact (List.pairwise_cons.mp sorted).1 b later

theorem sourceOf_eq_some (s : State) (a : Station) : sourceOf s = some a ↔
    s.nodePresent a ∧ (∀ b, s.nodePresent b → a.val ≤ b.val) ∧ a.val < s.loader.options.address.val ∧
    s.peers.records[a].bCode = some s.loader.options.bCode := by
  unfold sourceOf
  cases nodes : presentNodes s with
  | nil =>
    have absent : ∀ b, ¬ s.nodePresent b := fun b present => by
      have mem := (mem_presentNodes s b).mpr present
      rw [nodes] at mem
      cases mem
    simp only [reduceCtorEq, false_iff]
    exact fun found => absent a found.1
  | cons x l =>
    have head : s.nodePresent x := (mem_presentNodes s x).mp (by rw [nodes]; exact List.mem_cons_self)
    have least : ∀ b, s.nodePresent b → x.val ≤ b.val := fun b present => presentNodes_head_le nodes present
    dsimp only
    constructor
    · intro found
      split at found
      next ok =>
        obtain rfl := Option.some.inj found
        exact ⟨head, least, ok⟩
      next => cases found
    · rintro ⟨present, first, low, code⟩
      have same : a = x := Fin.ext (Nat.le_antisymm (first x head) (least a present))
      subst same
      exact if_pos ⟨low, code⟩

/-! ## The least budget (R56) -/

section
variable {α : Type} (b : α → Option Nat)

/-- The least of a number and the numbers of a list. -/
def leastOf (l : List α) (m : Nat) : Nat := l.foldl (fun m a => min m ((b a).getD m)) m

theorem leastOf_le_init (l : List α) (m : Nat) : leastOf b l m ≤ m := by
  induction l generalizing m with
  | nil => exact Nat.le_refl _
  | cons x xs ih => exact (ih _).trans (Nat.min_le_left _ _)

theorem leastOf_le_mem (l : List α) (m : Nat) {a : α} {n : Nat} (mem : a ∈ l) (number : b a = some n) : leastOf b l m ≤ n := by
  induction l generalizing m with
  | nil => cases mem
  | cons x xs ih =>
    rcases List.mem_cons.mp mem with rfl | later
    · have step : leastOf b (a :: xs) m = leastOf b xs (min m ((b a).getD m)) := rfl
      rw [step, number]
      exact (leastOf_le_init b xs _).trans (Nat.min_le_right _ _)
    · exact ih _ later

theorem leastOf_attained (l : List α) (m : Nat) : leastOf b l m = m ∨ ∃ a ∈ l, b a = some (leastOf b l m) := by
  induction l generalizing m with
  | nil => exact .inl rfl
  | cons x xs ih =>
    have tail : leastOf b (x :: xs) m = leastOf b xs (min m ((b x).getD m)) := rfl
    rw [tail]
    rcases ih (min m ((b x).getD m)) with same | ⟨a, mem, number⟩
    · rw [same]
      cases number : b x with
      | none => exact .inl (Nat.min_self m)
      | some n =>
        rcases Nat.le_total m n with le | le
        · exact .inl (Nat.min_eq_left le)
        · refine .inr ⟨x, List.mem_cons_self, ?_⟩
          rw [number]
          exact congrArg some (Nat.min_eq_right le).symm
    · exact .inr ⟨a, List.mem_cons_of_mem _ mem, number⟩

end

theorem leastBudget_eq (s : State) : leastBudget s =
    leastOf (fun a => s.peers.records[a].budget) (presentNodes s) s.loader.options.budget := rfl

/-! ## The recomputation (R120) -/

theorem recomputeDerived_eq (s : State) : recomputeDerived s = { s with
    peers := { s.peers with budgetDiffers := budgetsDiffer s, bMismatch := mismatchHolds s, phaseSource := sourceOf s }
    plan := { s.plan with budget := if mismatchHolds s then 0 else leastBudget s } } := rfl

theorem mismatchHolds_iff (s : State) :
    mismatchHolds s = true ↔ ∃ a, s.nodePresent a ∧ s.peers.records[a].bCode ≠ some s.loader.options.bCode := by
  simp only [mismatchHolds, List.any_eq_true, mem_presentNodes, bne_iff_ne]

theorem budgetsDiffer_iff (s : State) :
    budgetsDiffer s = true ↔ ∃ a, s.nodePresent a ∧ s.peers.records[a].budget ≠ some s.loader.options.budget := by
  simp only [budgetsDiffer, List.any_eq_true, mem_presentNodes, bne_iff_ne]

/-- The recomputation makes the derived values agree with the records. -/
theorem recomputeDerived_derivedFit (s : State) : (recomputeDerived s).derivedFit := by
  refine ⟨mismatchHolds_iff s, budgetsDiffer_iff s, sourceOf_eq_some s, fun mismatch => if_pos (by exact mismatch), fun fits => ?_⟩
  have budget : (recomputeDerived s).plan.budget = leastBudget s := if_neg (Bool.eq_false_iff.mp (by exact fits))
  rw [budget, leastBudget_eq]
  refine ⟨leastOf_le_init _ _ _, fun a b present number => leastOf_le_mem _ _ _ ((mem_presentNodes s a).mpr present) number, ?_⟩
  refine (leastOf_attained (fun a => s.peers.records[a].budget) (presentNodes s) s.loader.options.budget).imp id ?_
  rintro ⟨a, mem, number⟩
  exact ⟨a, (mem_presentNodes s a).mp mem, number⟩

/-- The derived values depend on the records, the options and what was derived. -/
theorem derivedFit_congr {s t : State} (fit : s.derivedFit) (peers : t.peers = s.peers) (options : t.loader.options = s.loader.options)
    (budget : t.plan.budget = s.plan.budget) : t.derivedFit := by
  simpa only [State.derivedFit, State.nodePresent, State.peerNode, peers, options, budget] using fit

end Sys2Proof.Machine
end

section
/-!
PROOF. The peer records: a PRESENCE heard, a silence, a departure (R119 to R122, R130).
-/

namespace Sys2Proof.Machine

/-! ## Taking a PRESENCE -/

theorem recordedInterval_eq (n : Nat) : recordedInterval n = if 2 ≤ n ∧ n ≤ 8 then n else 8 := by
  simp [recordedInterval, within]

theorem heardRecord_of_node {a : Station} {body : List Byte} (node : a.val < 8) : heardRecord a body =
    { present := true, countdown := 3 * recordedInterval (presenceInterval body), budget := some (presenceBudget body)
      bCode := some (presenceBCode body), interval := some (recordedInterval (presenceInterval body)) } := if_pos node

theorem heardRecord_of_far {a : Station} {body : List Byte} (far : 8 ≤ a.val) : heardRecord a body =
    { present := true, countdown := 24, budget := none, bCode := none, interval := none } := if_neg (by omega)

theorem nodeOf_of_far {a : Station} (far : 8 ≤ a.val) : nodeOf a = none := dif_neg (by omega)

theorem nodeOf_of_station {a : Station} {st : Fin 8} (station : st.val = a.val) : nodeOf a = some st := by
  have node : a.val < 8 := station ▸ st.isLt
  rw [nodeOf, dif_pos node]
  exact congrArg some (Fin.ext station.symm)

theorem restateAll_budget (st : Fin 8) (body : List Byte) (s : State) : (restateAll st body s).plan.budget = s.plan.budget := by
  refine foldl_channels_keeps (P := fun u => u.plan.budget = s.plan.budget) _ (fun u c hu => by simpa using hu) _ ?_
  refine foldl_channels_keeps (P := fun u => u.plan.budget = s.plan.budget) _ (fun u c hu => ?_) s rfl
  refine Eq.trans ?_ hu
  unfold restateClaim
  dsimp only
  split <;> simp [setTable]

theorem adoptPhase_budget (x y : Nat) (s : State) : (adoptPhase x y s).plan.budget = s.plan.budget := by
  unfold adoptPhase
  dsimp only
  split <;> simp [clearMaps, countPhaseAdjust]

/-- The record and the derived values that a PRESENCE from another station leaves. -/
def withRecord (f : RxFrame) (s : State) : State := recomputeDerived (setRecord f.source (heardRecord f.source f.body) s)

section
variable {f : RxFrame} {s : State}

theorem takePresence_of_far (other : s.isOwn f.source = false) (far : 8 ≤ f.source.val) : takePresence f s = withRecord f s := by
  unfold takePresence withRecord
  rw [if_neg (by simp [other]), nodeOf_of_far far]

theorem takePresence_of_node {st : Fin 8} (other : s.isOwn f.source = false) (station : st.val = f.source.val) : takePresence f s =
    restateAll st f.body (if (withRecord f s).peers.phaseSource = some f.source then
      adoptPhase (presencePhase f.body) f.openerPhase (withRecord f s) else withRecord f s) := by
  unfold takePresence withRecord
  rw [if_neg (by simp [other]), nodeOf_of_station station]

theorem takePresence_of_own (own : s.isOwn f.source = true) (marked : f.own = true) : takePresence f s =
    restateAll s.loader.options.address f.body (recomputeDerived s) := by
  unfold takePresence
  rw [if_pos own, if_pos marked]

theorem takePresence_of_unmarked (own : s.isOwn f.source = true) (unmarked : f.own = false) : takePresence f s = s := by
  unfold takePresence
  rw [if_pos own, if_neg (by simp [unmarked])]

/-- What follows the record of a PRESENCE leaves the records and what is derived from them. -/
theorem takePresence_record (other : s.isOwn f.source = false) : (takePresence f s).peers = (withRecord f s).peers ∧
    (takePresence f s).plan.budget = (withRecord f s).plan.budget := by
  by_cases far : 8 ≤ f.source.val
  · rw [takePresence_of_far other far]
    exact ⟨rfl, rfl⟩
  · rw [takePresence_of_node (st := ⟨f.source.val, by omega⟩) other rfl, restateAll_budget]
    split
    · exact ⟨by simp, adoptPhase_budget _ _ _⟩
    · exact ⟨by simp, rfl⟩

theorem exec_presence {rest : List RxFrame} (delivers : s.delivers .presence f rest) :
    exec .presence s = .next (noteReports (s.popped rest) (takePresence f (s.popped rest))) :=
  exec_delivery (c := .presence) (g := fun f => reporting (takePresence f)) rfl delivers

end

theorem noteReports_derivedFit {s t : State} (fit : t.derivedFit) : (noteReports s t).derivedFit :=
  derivedFit_congr fit (by simp) (by simp) (by simp)

/-- Settles O52: the record, and the values derived from the records. -/
theorem presenceRecordsThePeer : Obligations.PresenceRecordsThePeer := by
  intro f rest s delivers n p
  have taken := exec_presence delivers
  refine ⟨fun other => ?_, fun own => ?_⟩
  · obtain ⟨peers, budget⟩ := takePresence_record (f := f) (s := s.popped rest) other
    have peersAfter : (noteReports (s.popped rest) (takePresence f (s.popped rest))).peers = (withRecord f (s.popped rest)).peers := by
      simp [peers]
    have records : (noteReports (s.popped rest) (takePresence f (s.popped rest))).peers.records =
        s.peers.records.set f.source (heardRecord f.source f.body) := congrArg PeerTable.records peersAfter
    have fit : (takePresence f (s.popped rest)).derivedFit :=
      derivedFit_congr (recomputeDerived_derivedFit (setRecord f.source (heardRecord f.source f.body) (s.popped rest))) peers (by simp) budget
    refine ⟨_, taken, fun b others => ?_, ?_, noteReports_derivedFit fit, fun node => ?_, fun far => ⟨?_, ?_⟩⟩
    · rw [records]
      exact Vector.getElem_set_ne _ _ fun same => others (Fin.ext same.symm)
    · exact (congrArg PeerTable.presenceCount peersAfter :)
    · rw [records, heardRecord_of_node node, recordedInterval_eq]
      exact Vector.getElem_set_self _
    · have quiet : noteReports (s.popped rest) (withRecord f (s.popped rest)) = withRecord f (s.popped rest) :=
        noteReports_of_same fun _ => rfl
      rw [takePresence_of_far (by exact other) far, quiet]
      rfl
    · rw [records, heardRecord_of_far far]
      exact Vector.getElem_set_self _
  · by_cases marked : f.own = true
    · rw [takePresence_of_own (by exact own) marked] at taken
      refine ⟨_, taken, by simp [State.popped], by simp [State.popped], fun _ => noteReports_derivedFit ?_⟩
      exact derivedFit_congr (recomputeDerived_derivedFit (s.popped rest)) (by simp) (by simp) (restateAll_budget _ _ _)
    · rw [takePresence_of_unmarked (by exact own) (by simpa using marked), noteReports_self] at taken
      exact ⟨_, taken, rfl, rfl, fun h => absurd h marked⟩

/-! ## Silence and departure -/

theorem takeSilence_of_present {a : Station} {s : State} (start : s.base.phase = 0) (present : s.peers.records[a].present = true) :
    takeSilence a s = { s with
      peers := { s.peers with
        records := s.peers.records.set a { s.peers.records[a] with countdown := s.peers.records[a].countdown - 1 } }
      event := { s.event with due := if s.peers.records[a].countdown ≤ 1 then some (.departure a) else s.event.due } } := by
  have counts : ¬ (s.base.phase ≠ 0 ∨ s.peers.records[a].present = false) := by
    rw [present, start]
    simp
  unfold takeSilence
  dsimp only
  rw [if_neg counts]
  by_cases silent : s.peers.records[a].countdown ≤ 1
  · rw [if_pos silent, if_pos silent]
    rfl
  · rw [if_neg silent, if_neg silent]
    rfl

theorem departureStep_of_far {a : Station} {s : State} (far : 8 ≤ a.val) : departureStep a s = setRecord a PeerRecord.reset s := by
  unfold departureStep
  rw [nodeOf_of_far far]

theorem departureStep_of_node {a : Station} {st : Fin 8} {s : State} (station : st.val = a.val) : departureStep a s =
    recomputeDerived (removeStationKeys st
      (setTable (s.plan.table.filter fun e => e.key.station ≠ st) (setRecord a PeerRecord.reset s))) := by
  unfold departureStep
  rw [nodeOf_of_station station]
  rfl

/-- A new queue keeps the dwell of a head that stays. -/
theorem setQueue_dwell (q : List Key) (s : State) :
    (q ≠ [] → q.head? = s.arbiter.queue.head? → (setQueue q s).arbiter.dwell = s.arbiter.dwell) ∧
    (q = [] ∨ q.head? ≠ s.arbiter.queue.head? → (setQueue q s).arbiter.dwell = 0) := by
  unfold setQueue
  refine ⟨fun some same => ?_, ?_⟩
  · simp only [State.setArbiter, if_pos same, if_neg some]
  · rintro (none | differs)
    · simp only [State.setArbiter, if_pos none, ite_self]
    · simp only [State.setArbiter, if_neg differs]

/-- Settles O54: the countdown of each station, and its departure. -/
theorem silenceRemovesTheStation : Obligations.SilenceRemovesTheStation := by
  intro a s r gone
  refine ⟨fun none => if_pos none, fun start present => takeSilence_of_present start present, fun due far => ?_, fun due node => ?_⟩
  · have taken : exec (.silenceDeparture a) s = .next (goOn (departureStep a (setDue none s))) := exec_stepCommand_of_due due
    rw [taken, departureStep_of_far far]
    rfl
  · have taken : exec (.silenceDeparture a) s = .next (goOn (departureStep a (setDue none s))) := exec_stepCommand_of_due due
    have others : ∀ b : Fin 8, decide (b ≠ ⟨a.val, node⟩) = decide (b.val ≠ a.val) := fun b => by simp [Fin.ext_iff]
    rw [departureStep_of_node (st := ⟨a.val, node⟩) rfl] at taken
    simp only [removeStationKeys, others] at taken
    obtain ⟨stays, changes⟩ := setQueue_dwell (s.arbiter.queue.filter fun k => k.station.val ≠ a.val)
      (setTable (s.plan.table.filter fun e => e.key.station.val ≠ a.val) (setRecord a PeerRecord.reset (setDue none s)))
    exact ⟨_, taken, rfl, recomputeDerived_derivedFit _, stays, changes⟩

end Sys2Proof.Machine
end

section
/-!
PROOF. The Line Receiver (R133, R135): its states, the line-busy indication.
-/

namespace Sys2Proof.Machine

/-! ## A character on the line -/

/-- The node with a character heard. -/
def hear (ch : LineChar) (s : State) : State := s.setReceiver (s.receiver.hearing (busyAfter ch))

/-- A character without framing error. -/
def plainChar (b : Byte) : LineChar := { byte := b, framingError := false }

section
variable {ch : LineChar} {s : State}

theorem takeChar_of_inactive (idle : s.active = false) : takeChar ch s = s := if_neg (by simp [idle])

theorem takeChar_of_silent (active : s.active = true) (silent : sending s = none) :
    takeChar ch s = receiveChar ch false (hear ch s) := by
  unfold takeChar
  rw [if_pos active]
  dsimp only
  rw [silent]
  rfl

theorem takeChar_of_sending {x : Selection} {n : Nat} {b : Byte} (active : s.active = true) (sends : sending s = some (x, n, b)) :
    takeChar ch s = if ch.framingError = false ∧ ch.byte = b then
      if n + 1 = x.frame.length then receiveChar ch true (transmitSuccess x (hear ch s))
      else receiveChar ch false ((hear ch s).setTx { (hear ch s).tx with sent := some (n + 1) })
    else receiveChar ch false (abortFrame (hear ch s)) := by
  unfold takeChar
  rw [if_pos active]
  dsimp only
  rw [sends]
  rfl

theorem takeChars_nil (s : State) : takeChars [] s = s := rfl

theorem takeChars_cons (b : Byte) (chars : List Byte) (s : State) :
    takeChars (b :: chars) s = takeChars chars (takeChar (plainChar b) s) := rfl

theorem takeChars_append (xs ys : List Byte) (s : State) : takeChars (xs ++ ys) s = takeChars ys (takeChars xs s) :=
  List.foldl_append

theorem takeChars_of_inactive (chars : List Byte) (idle : s.active = false) : takeChars chars s = s := by
  induction chars with
  | nil => rfl
  | cons b rest ih => rw [takeChars_cons, takeChar_of_inactive idle, ih]

/-! ## What the receiver does with it (R135) -/

variable {own : Bool}

theorem receiveChar_opener (hunt : s.receiver.state = .hunt) : receiveChar (plainChar openerChar) own s =
    s.setReceiver { s.receiver with state := .frame, taken := [], openerPhase := s.base.phase } := by
  unfold receiveChar
  rw [hunt]
  exact if_pos ⟨rfl, rfl⟩

theorem receiveChar_hunt_other (hunt : s.receiver.state = .hunt) (other : ch.framingError = true ∨ ch.byte ≠ openerChar) :
    receiveChar ch own s = s := by
  unfold receiveChar
  rw [hunt]
  refine if_neg fun opens => ?_
  rcases other with error | byte
  · exact Bool.false_ne_true (opens.1.symm.trans error)
  · exact byte opens.2

theorem receiveChar_resync (resync : s.receiver.state = .resync) : receiveChar ch own s = s := by
  unfold receiveChar
  rw [resync]

theorem receiveChar_error (frame : s.receiver.state = .frame) (error : ch.framingError = true) :
    receiveChar ch own s = discardFrame .resync s := by
  unfold receiveChar
  rw [frame]
  exact if_pos error

theorem receiveChar_inFrame {b : Byte} (frame : s.receiver.state = .frame) : receiveChar (plainChar b) own s = frameChar b own s := by
  unfold receiveChar
  rw [frame]
  rfl

end

/-! ## The line at rest (R133, R135) -/

theorem lineRests_of_inactive {s : State} (idle : s.active = false) : lineRests s = s := if_neg (by simp [idle])

theorem lineRests_of_active {s : State} (active : s.active = true) : lineRests s = s.setReceiver { s.receiver with lineBusy := false } := by
  unfold lineRests senseLine
  rw [if_pos active, Bool.or_false]

theorem lineGap_of_inactive {s : State} (idle : s.active = false) : lineGap s = s := by
  unfold lineGap
  rw [lineRests_of_inactive idle]
  exact if_neg (by simp [idle])

theorem lineQuiet_of_inactive {s : State} (idle : s.active = false) : lineQuiet s = s := by
  unfold lineQuiet
  rw [lineRests_of_inactive idle]
  exact if_neg (by simp [idle])

theorem lineGap_of_active {s : State} (active : s.active = true) : lineGap s =
    if s.receiver.state = .frame then discardFrame .hunt (s.setReceiver { s.receiver with lineBusy := false })
    else s.setReceiver { s.receiver with lineBusy := false } := by
  have still : (s.setReceiver { s.receiver with lineBusy := false }).active = true := active
  have state : (s.setReceiver { s.receiver with lineBusy := false }).receiver.state = s.receiver.state := rfl
  unfold lineGap
  rw [lineRests_of_active active]
  simp only [still, state, Bool.true_and, beq_iff_eq]

theorem lineQuiet_of_active {s : State} (active : s.active = true) : lineQuiet s =
    if s.receiver.state = .resync then s.setReceiver { s.receiver with lineBusy := false, state := .hunt }
    else s.setReceiver { s.receiver with lineBusy := false } := by
  have still : (s.setReceiver { s.receiver with lineBusy := false }).active = true := active
  have state : (s.setReceiver { s.receiver with lineBusy := false }).receiver.state = s.receiver.state := rfl
  unfold lineQuiet
  rw [lineRests_of_active active]
  simp only [still, state, Bool.true_and, beq_iff_eq]
  rfl

/-! ## The commands of the line -/

section
variable {s : State} (ready : s.ready)
include ready

theorem exec_opener : exec .opener s = .next (takeChar (plainChar openerChar) s) := exec_arrival_of_ready rfl ready

theorem exec_framingError (b : Byte) : exec (.framingError b) s = .next (takeChar { byte := b, framingError := true } s) :=
  exec_arrival_of_ready rfl ready

theorem exec_frameReceived (chars : List Byte) : exec (.frameReceived chars) s = .next (takeChars chars s) :=
  exec_arrival_of_ready rfl ready

theorem exec_rxGapTimeout : exec .rxGapTimeout s = .next (lineGap s) := exec_arrival_of_ready rfl ready

theorem exec_resyncQuiet : exec .resyncQuiet s = .next (lineQuiet s) := exec_arrival_of_ready rfl ready

end

/-- Settles O56: what each command of the line does in each state of the receiver. -/
theorem receiverFollowsItsStates : Obligations.ReceiverFollowsItsStates := by
  refine ⟨fun ch => ?_, fun b s ready => ?_⟩
  · simp [busyAfter, bitOf, or_assoc]
  intro heard counted busyB
  rw [exec_opener ready, exec_framingError ready, exec_rxGapTimeout ready, exec_resyncQuiet ready, exec_frameReceived ready,
    exec_frameReceived ready]
  refine ⟨fun idle => ⟨?_, ?_, ?_, ?_, fun chars => ?_⟩, fun active silent => ⟨fun hunt => ⟨?_, ?_, fun other => ?_⟩,
    fun resync => ⟨?_, ?_, ?_⟩, fun frame => ⟨rfl, ?_⟩⟩, fun active => ⟨fun frame => ?_, fun other => ?_, fun resync => ?_, fun other => ?_⟩⟩
  · rw [takeChar_of_inactive idle]
  · rw [takeChar_of_inactive idle]
  · rw [lineGap_of_inactive idle]
  · rw [lineQuiet_of_inactive idle]
  · rw [exec_frameReceived ready, takeChars_of_inactive chars idle]
  · rw [takeChar_of_silent active silent, receiveChar_opener (by exact hunt)]
    rfl
  · rw [takeChar_of_silent active silent, receiveChar_hunt_other (by exact hunt) (.inl rfl)]
    rfl
  · rw [takeChars_cons, takeChars_nil, takeChar_of_silent active silent, receiveChar_hunt_other (by exact hunt) (.inr (by exact other))]
    rfl
  · rw [takeChar_of_silent active silent, receiveChar_resync (by exact resync)]
    rfl
  · rw [takeChar_of_silent active silent, receiveChar_resync (by exact resync)]
    rfl
  · rw [takeChars_cons, takeChars_nil, takeChar_of_silent active silent, receiveChar_resync (by exact resync)]
    rfl
  · rw [takeChar_of_silent active silent, receiveChar_error (by exact frame) rfl]
    rfl
  · rw [lineGap_of_active active, if_pos frame]
    rfl
  · rw [lineGap_of_active active, if_neg other]
    rfl
  · rw [lineQuiet_of_active active, if_pos resync]
    rfl
  · rw [lineQuiet_of_active active, if_neg other]
    rfl

end Sys2Proof.Machine
end

section
/-!
PROOF. The end of the defer and an abort (R142 to R144).
-/

namespace Sys2Proof.Machine

/-! ## What the receiver leaves -/

/-- The line-busy indication, the claims and the collisions are the same, and so is a Transmitter that sends nothing. -/
structure sameLine (s t : State) : Prop where
  lineBusy : t.receiver.lineBusy = s.receiver.lineBusy
  heard : t.receiver.heard = s.receiver.heard
  busySince : t.receiver.busySince = s.receiver.busySince
  table : t.plan.table = s.plan.table
  collisions : t.counters.collisions = s.counters.collisions
  tx : s.tx.selection = none → s.tx.sent = none → t.tx = s.tx

namespace sameLine

variable {s t u : State}

theorem refl (s : State) : sameLine s s := ⟨rfl, rfl, rfl, rfl, rfl, fun _ _ => rfl⟩

theorem trans (first : sameLine s t) (second : sameLine t u) : sameLine s u where
  lineBusy := second.lineBusy.trans first.lineBusy
  heard := second.heard.trans first.heard
  busySince := second.busySince.trans first.busySince
  table := second.table.trans first.table
  collisions := second.collisions.trans first.collisions
  tx selection sent := by
    have same := first.tx selection sent
    exact (second.tx (by rw [same, selection]) (by rw [same, sent])).trans same

end sameLine

theorem enterConfigFault_sameLine (s : State) : sameLine s (enterConfigFault s) := by
  refine ⟨rfl, rfl, rfl, by simp [enterConfigFault, abandonPlan], by simp [enterConfigFault], fun selection sent => ?_⟩
  have cut : (enterConfigFault s).tx = { s.tx with selection := none, sent := none } := by
    simp [enterConfigFault, cutFrame]
  rw [cut, ← selection, ← sent]

theorem queueFrame_sameLine (f : RxFrame) (s : State) : sameLine s (queueFrame f s) := by
  unfold queueFrame
  split <;> exact ⟨rfl, rfl, rfl, rfl, rfl, fun _ _ => rfl⟩

theorem completeFrame_sameLine (chars : List Byte) (k : NoticeKind) (own : Bool) (s : State) : sameLine s (completeFrame chars k own s) := by
  have ends : sameLine s (endAssembly s) := ⟨rfl, rfl, rfl, rfl, rfl, fun _ _ => rfl⟩
  unfold completeFrame
  dsimp only
  split
  · unfold validFrame
    split
    · exact ends.trans (enterConfigFault_sameLine _)
    · exact ends.trans (queueFrame_sameLine _ _)
  · exact ⟨rfl, rfl, rfl, rfl, rfl, fun _ _ => rfl⟩

theorem frameChar_sameLine (b : Byte) (own : Bool) (s : State) : sameLine s (frameChar b own s) := by
  have kept : sameLine s (s.setReceiver { s.receiver with taken := s.receiver.taken ++ [b] }) := ⟨rfl, rfl, rfl, rfl, rfl, fun _ _ => rfl⟩
  have discarded : sameLine s (discardFrame .resync s) := ⟨rfl, rfl, rfl, rfl, rfl, fun _ _ => rfl⟩
  unfold frameChar
  dsimp only
  split
  next => exact discarded
  next =>
    split
    · exact kept
    · split
      · exact discarded
      · split
        · exact kept.trans (completeFrame_sameLine _ _ _ _)
        · exact kept

theorem receiveChar_sameLine (ch : LineChar) (own : Bool) (s : State) : sameLine s (receiveChar ch own s) := by
  unfold receiveChar
  split
  · split
    · exact ⟨rfl, rfl, rfl, rfl, rfl, fun _ _ => rfl⟩
    · exact .refl s
  · exact .refl s
  · split
    · exact ⟨rfl, rfl, rfl, rfl, rfl, fun _ _ => rfl⟩
    · exact frameChar_sameLine _ _ _

/-- Outside FRAME a character changes nothing but the receiver. -/
theorem receiveChar_outside {ch : LineChar} {own : Bool} {s : State} (outside : s.receiver.state ≠ .frame) :
    receiveChar ch own s = { s with receiver := (receiveChar ch own s).receiver } := by
  unfold receiveChar
  cases state : s.receiver.state
  case frame => exact absurd state outside
  case hunt =>
    dsimp only
    split <;> rfl
  case resync => rfl

/-! ## The end of the defer (R143) -/

section
variable {quiet : Bool} {s : State}

theorem mayTransmit_iff : mayTransmit quiet s = true ↔ quiet = true ∧ s.receiver.busySince = false ∧ s.receiver.state = .hunt ∧
    s.inRun = true ∧ s.tx.attempted = false := by
  simp only [mayTransmit, Bool.and_eq_true, Bool.not_eq_true', beq_iff_eq, and_assoc]

theorem deferEnd_of_none (none : s.tx.selection = none ∨ s.tx.sent.isSome = true) : deferEnd quiet s = s := by
  unfold deferEnd
  split
  next x selection sent =>
    rcases none with h | h
    · rw [selection] at h
      cases h
    · rw [sent] at h
      cases h
  next => rfl

theorem deferEnd_of_selection (selection : s.tx.selection.isSome = true) (sent : s.tx.sent = none) : deferEnd quiet s =
    if mayTransmit quiet s then
      (s.setTx { s.tx with sent := some 0, attempted := true }).setReceiver { s.receiver with lineBusy := true, busySince := true }
    else s.setTx { s.tx with selection := none } := by
  obtain ⟨x, some⟩ := Option.isSome_iff_exists.mp selection
  unfold deferEnd
  rw [some, sent]

/-- The node at the end of its defer, where the line is said to have been quiet or not. -/
def sensedQuiet (quiet : Bool) (s : State) : State := s.setReceiver { s.receiver with lineBusy := s.receiver.lineBusy && !quiet }

theorem lineRests_sensedQuiet (active : s.active = true) : (if quiet then lineRests s else s) = sensedQuiet quiet s := by
  unfold sensedQuiet
  cases quiet
  · rw [if_neg (by decide), Bool.not_false, Bool.and_true]
    rfl
  · rw [if_pos rfl, lineRests_of_active active, Bool.not_true, Bool.and_false]

variable {bits : Nat}

theorem exec_frameStart_of_other (ready : s.ready) (none : s.active = false ∨ bits ≠ s.defer) :
    exec (.frameStart { bits := bits, quiet := quiet }) s = .next s := by
  rw [exec_arrival_of_ready (f := fun u => if u.active && bits == u.defer then deferEnd quiet (if quiet then lineRests u else u) else u)
    rfl ready, if_neg]
  rcases none with idle | other
  · simp [idle]
  · simp [other]

theorem exec_frameStart_of_moment (ready : s.ready) (active : s.active = true) (moment : bits = s.defer) :
    exec (.frameStart { bits := bits, quiet := quiet }) s = .next (deferEnd quiet (sensedQuiet quiet s)) := by
  rw [exec_arrival_of_ready (f := fun u => if u.active && bits == u.defer then deferEnd quiet (if quiet then lineRests u else u) else u)
    rfl ready, if_pos (by simp [active, moment]), lineRests_sensedQuiet active]

end

/-! ## An abort (R144) -/

section
variable {ch : LineChar} {s : State}

theorem exec_transmitAbort (ready : s.ready) : exec (.transmitAbort ch) s = .next (echoMismatch ch s) := exec_arrival_of_ready rfl ready

theorem echoMismatch_of_silent (silent : sending s = none) : echoMismatch ch s = s := by
  unfold echoMismatch
  rw [silent]

theorem sending_eq_some {x : Selection} {n : Nat} {b : Byte} (selection : s.tx.selection = some x) (sent : s.tx.sent = some n)
    (char : x.frame[n]? = some b) : sending s = some (x, n, b) := by
  unfold sending
  rw [selection, sent]
  dsimp only
  rw [char]
  rfl

theorem echoMismatch_of_sending {x : Selection} {n : Nat} {b : Byte} (sends : sending s = some (x, n, b)) :
    echoMismatch ch s = if ch.framingError = false ∧ ch.byte = b then s else takeChar ch s := by
  unfold echoMismatch
  rw [sends]

theorem echoMismatch_of_inactive (idle : s.active = false) : echoMismatch ch s = s := by
  unfold echoMismatch
  split
  · rfl
  · split
    · rfl
    · exact takeChar_of_inactive idle

end

/-- Settles O59: what the end of the defer starts, and what a character that differs aborts. -/
theorem frameStartsOnAQuietLineAndAborts : Obligations.FrameStartsOnAQuietLineAndAborts := by
  refine ⟨fun p ch s ready idle => ⟨exec_frameStart_of_other ready (.inl idle), ?_⟩, fun bits quiet ch s ready active => ?_⟩
  · rw [exec_transmitAbort ready, echoMismatch_of_inactive idle]
  intro deferBits quietened may
  refine ⟨fun other => exec_frameStart_of_other ready (.inr other), fun moment none => ?_, fun moment selection sent => ⟨fun ok => ?_, fun no => ?_⟩,
    fun silent => ?_, fun x n b selection sent char => ⟨fun fine same => ?_, fun differs => ?_⟩⟩
  · rw [exec_frameStart_of_moment ready active moment, deferEnd_of_none (by exact none)]
    rfl
  · rw [exec_frameStart_of_moment ready active moment, deferEnd_of_selection (by exact selection) (by exact sent),
      if_pos (mayTransmit_iff.mpr (by exact ok))]
    rfl
  · rw [exec_frameStart_of_moment ready active moment, deferEnd_of_selection (by exact selection) (by exact sent),
      if_neg (mt mayTransmit_iff.mp (by exact no))]
    rfl
  · rw [exec_transmitAbort ready, echoMismatch_of_silent silent]
  · rw [exec_transmitAbort ready, echoMismatch_of_sending (sending_eq_some selection sent char), if_pos ⟨fine, same⟩]
  · have sends := sending_eq_some selection sent char
    have mismatch : ¬ (ch.framingError = false ∧ ch.byte = b) := by
      rintro ⟨fine, same⟩
      rcases differs with error | other
      · exact Bool.false_ne_true (fine.symm.trans error)
      · exact other same
    have taken : exec (.transmitAbort ch) s = .next (receiveChar ch false (abortFrame (hear ch s))) := by
      rw [exec_transmitAbort ready, echoMismatch_of_sending sends, if_neg mismatch, takeChar_of_sending active sends, if_neg mismatch]
    have same := receiveChar_sameLine ch false (abortFrame (hear ch s))
    have tx := same.tx rfl rfl
    refine ⟨_, taken, tx, ?_, same.collisions, ?_, ?_, ?_, ?_, same.table, same.lineBusy, same.heard, same.busySince, fun outside => ?_,
      fun frame error => ⟨?_, ?_⟩⟩
    · rw [State.lineDriven, tx]
      rfl
    · simp [abortFrame, hear]
    · simp [abortFrame, hear]
    · simp [abortFrame, hear]
    · simp [abortFrame, hear]
    · rw [tx]
      exact receiveChar_outside (s := abortFrame (hear ch s)) outside
    · rw [receiveChar_error (by exact frame) error]
      rfl
    · rw [receiveChar_error (by exact frame) error]
      rfl

end Sys2Proof.Machine
end

section
/-!
PROOF. A frame's characters (R134, R135): how the receiver assembles them, one command or several.
-/

namespace Sys2Proof.Machine

/-! ## The header and the length (R134, R148) -/

theorem kindCode_lt (k : NoticeKind) : kindCode k < 15 := by
  cases k <;> decide

theorem kindOfCode_kindCode (k : NoticeKind) : kindOfCode (kindCode k) = some k := by
  cases k <;> rfl

theorem kindOfCode_of_none {n : Nat} (none : n = 15) : kindOfCode n = Option.none := by
  subst none
  rfl

/-- The characters that a frame's check covers. -/
def framed (a : Station) (k : NoticeKind) (body : List Byte) : List Byte :=
  byteOf (a.val * 16 + kindCode k) :: byteOf body.length :: body

theorem byteOf_toNat {n : Nat} (small : n < 256) : (byteOf n).toNat = n := Nat.mod_eq_of_lt small

theorem header_halves (a : Station) (k : NoticeKind) : lowHalf (byteOf (a.val * 16 + kindCode k)) = kindCode k ∧
    highHalf (byteOf (a.val * 16 + kindCode k)) = a.val := by
  have code := kindCode_lt k
  have address := a.isLt
  rw [lowHalf, highHalf, byteOf_toNat (by omega)]
  omega

theorem bodyLength_le (k : NoticeKind) (n : Nat) : bodyLength k n ≤ 16 := by
  unfold bodyLength
  split
  · split <;> decide
  all_goals decide

theorem charAt_append_left {p q : List Byte} {i : Nat} (inside : i < p.length) : charAt (p ++ q) i = charAt p i :=
  List.getD_append _ _ _ _ inside

/-! ## One character (R135) -/

section
variable {a : Station} {k : NoticeKind} {body : List Byte} {x y b : Byte} {later : List Byte} {own : Bool} {s : State}

/-- A character of a frame is kept, or it is the last and the check decides. -/
theorem frameChar_framed (fits : body.length = bodyLength k a.val)
    (split : s.receiver.taken ++ b :: later = framed a k body ++ [x, y]) : frameChar b own s =
      if later = [] then
        completeFrame (framed a k body ++ [x, y]) k own (s.setReceiver { s.receiver with taken := framed a k body ++ [x, y] })
      else s.setReceiver { s.receiver with taken := s.receiver.taken ++ [b] } := by
  have whole : (s.receiver.taken ++ [b]) ++ later = framed a k body ++ [x, y] := by rw [← split, List.append_assoc]; rfl
  have lengths : s.receiver.taken.length + 1 + later.length = body.length + 4 := by
    have total := congrArg List.length whole
    simp only [framed, List.length_append, List.length_cons, List.length_nil] at total
    omega
  have first : charAt (s.receiver.taken ++ [b]) 0 = byteOf (a.val * 16 + kindCode k) := by
    rw [← charAt_append_left (q := later) (by simp), whole]
    rfl
  have code : kindOfCode (lowHalf (charAt (s.receiver.taken ++ [b]) 0)) = some k := by
    rw [first, (header_halves a k).1, kindOfCode_kindCode]
  have source : highHalf (charAt (s.receiver.taken ++ [b]) 0) = a.val := by rw [first, (header_halves a k).2]
  unfold frameChar
  dsimp only
  rw [code]
  dsimp only
  rw [source]
  by_cases single : (s.receiver.taken ++ [b]).length = 1
  · have more : later ≠ [] := by
      rintro rfl
      simp only [List.length_append, List.length_cons, List.length_nil] at single lengths
      omega
    rw [if_pos single, if_neg more]
  · have second : (charAt (s.receiver.taken ++ [b]) 1).toNat = body.length := by
      have two : 1 < (s.receiver.taken ++ [b]).length := by
        simp only [List.length_append, List.length_cons, List.length_nil] at single ⊢
        omega
      have small := bodyLength_le k a.val
      rw [← charAt_append_left (q := later) two, whole]
      exact byteOf_toNat (by omega)
    rw [if_neg single, second, if_neg (not_not.mpr fits)]
    by_cases last : later = []
    · subst last
      rw [List.append_nil] at whole
      have ends : (s.receiver.taken ++ [b]).length = body.length + 4 := by simpa using lengths
      rw [if_pos ends, if_pos rfl, whole]
    · have goes : (s.receiver.taken ++ [b]).length ≠ body.length + 4 := by
        have := List.length_pos_iff.mpr last
        simp only [List.length_append, List.length_cons, List.length_nil]
        omega
      rw [if_neg goes, if_neg last]

/-- The check is right: a valid frame. -/
theorem completeFrame_framed : completeFrame (framed a k body ++ checkChars (framed a k body)) k own s =
    validFrame { source := a, kind := k, body := body, own := own, openerPhase := s.receiver.openerPhase } (endAssembly s) := by
  have length : (framed a k body ++ checkChars (framed a k body)).length - 2 = (framed a k body).length := by
    rw [List.length_append]
    rfl
  have source : headerSource (charAt (framed a k body ++ checkChars (framed a k body)) 0) = a :=
    Fin.ext (header_halves a k).2
  unfold completeFrame
  dsimp only
  rw [length, List.take_left', List.drop_left', if_pos rfl, source]
  · rfl
  · rfl
  · rfl

/-- The check is wrong: a check error. -/
theorem completeFrame_mismatch (wrong : [x, y] ≠ checkChars (framed a k body)) :
    completeFrame (framed a k body ++ [x, y]) k own s = countCheckError (endAssembly s) := by
  have length : (framed a k body ++ [x, y]).length - 2 = (framed a k body).length := by
    rw [List.length_append]
    rfl
  unfold completeFrame
  dsimp only
  rw [length, List.take_left' rfl, List.drop_left' rfl, if_neg wrong.symm]

end

/-! ## Several characters -/

/-- The receiver after characters without framing error, but for what it assembles. -/
def hearAll (chars : List Byte) (r : LineReceiver) : LineReceiver :=
  chars.foldl (fun r b => r.hearing (busyAfter (plainChar b))) r

theorem hearAll_append (xs ys : List Byte) (r : LineReceiver) : hearAll (xs ++ ys) r = hearAll ys (hearAll xs r) := List.foldl_append

theorem hearAll_kept (chars : List Byte) (r : LineReceiver) : (hearAll chars r).state = r.state ∧ (hearAll chars r).taken = r.taken ∧
    (hearAll chars r).openerPhase = r.openerPhase := by
  induction chars generalizing r with
  | nil => exact ⟨rfl, rfl, rfl⟩
  | cons b rest ih => exact ih (r.hearing (busyAfter (plainChar b)))

/-- Hearing does not look at what is assembled. -/
theorem hearAll_taken (chars taken : List Byte) (r : LineReceiver) :
    hearAll chars { r with taken := taken } = { hearAll chars r with taken := taken } := by
  induction chars generalizing r with
  | nil => rfl
  | cons b rest ih => exact ih (r.hearing (busyAfter (plainChar b)))

theorem hearAll_snoc (chars : List Byte) (b : Byte) (r : LineReceiver) :
    (hearAll (chars ++ [b]) r).lineBusy = busyAfter (plainChar b) ∧ (hearAll (chars ++ [b]) r).heard = true ∧
    (hearAll (chars ++ [b]) r).busySince =
      (r.busySince || r.heard || decide (2 ≤ (chars ++ [b]).length) || busyAfter (plainChar b)) := by
  have later : ∀ (c : Byte) (cs : List Byte) (q : LineReceiver), (hearAll (c :: cs) q).heard = true ∧
      ((hearAll (c :: cs) q).busySince || (hearAll (c :: cs) q).heard) = true := fun c cs q => by
    have heard : (hearAll (c :: cs) q).heard = true := by
      induction cs generalizing c q with
      | nil => rfl
      | cons d ds ih => exact ih d (q.hearing (busyAfter (plainChar c)))
    exact ⟨heard, by rw [heard, Bool.or_true]⟩
  rw [hearAll_append]
  refine ⟨rfl, rfl, ?_⟩
  cases chars with
  | nil =>
    have single : hearAll [b] (hearAll [] r) = r.hearing (busyAfter (plainChar b)) := rfl
    rw [single]
    simp [LineReceiver.hearing]
  | cons c cs =>
    have last : (hearAll [b] (hearAll (c :: cs) r)).busySince =
        ((hearAll (c :: cs) r).busySince || (hearAll (c :: cs) r).heard || busyAfter (plainChar b)) := rfl
    rw [last, (later c cs r).2]
    simp

section
variable {a : Station} {k : NoticeKind} {body : List Byte} {x y b : Byte} {now later : List Byte} {s : State}

/-- A node that sends nothing keeps the characters of a frame that go before its last. -/
theorem takeChars_framed_part (active : s.active = true) (silent : sending s = none) (frame : s.receiver.state = .frame)
    (fits : body.length = bodyLength k a.val) (split : s.receiver.taken ++ (now ++ later) = framed a k body ++ [x, y]) (more : later ≠ []) :
    takeChars now s = s.setReceiver { hearAll now s.receiver with taken := s.receiver.taken ++ now } := by
  induction now generalizing s with
  | nil =>
    rw [List.append_nil]
    rfl
  | cons b rest ih =>
    have rejoined : s.receiver.taken ++ b :: (rest ++ later) = framed a k body ++ [x, y] := split
    have kept : takeChar (plainChar b) s = s.setReceiver { s.receiver.hearing (busyAfter (plainChar b)) with taken := s.receiver.taken ++ [b] } := by
      rw [takeChar_of_silent active silent, receiveChar_inFrame (by exact frame), frameChar_framed (x := x) (y := y) fits (by exact rejoined),
        if_neg (by simp [more])]
      rfl
    rw [takeChars_cons, kept, ih (by exact active) (by exact silent) (by exact frame)]
    · rw [show b :: rest = [b] ++ rest from rfl, ← List.append_assoc]
      exact congrArg (fun r => s.setReceiver { r with taken := s.receiver.taken ++ [b] ++ rest }) (hearAll_taken rest _ _)
    · rw [← rejoined]
      simp [State.setReceiver]

/-- With its last character the frame is complete. -/
theorem takeChars_framed_last (active : s.active = true) (silent : sending s = none) (frame : s.receiver.state = .frame)
    (fits : body.length = bodyLength k a.val) (split : s.receiver.taken ++ (now ++ [b]) = framed a k body ++ [x, y]) :
    takeChars (now ++ [b]) s = completeFrame (framed a k body ++ [x, y]) k false
      (s.setReceiver { hearAll (now ++ [b]) s.receiver with taken := framed a k body ++ [x, y] }) := by
  obtain ⟨state, -, -⟩ := hearAll_kept now s.receiver
  rw [takeChars_append, takeChars_framed_part active silent frame fits split (by simp), takeChars_cons, takeChars_nil,
    takeChar_of_silent (by exact active) (by exact silent), receiveChar_inFrame (by exact state.trans frame),
    frameChar_framed (x := x) (y := y) (later := []) fits (by rw [← split, ← List.append_assoc]; rfl), if_pos rfl, hearAll_append]
  rfl

end

end Sys2Proof.Machine
end

section
/-!
PROOF. Sending and receiving agree (R134, R135, R137, R138, R148).
-/

namespace Sys2Proof.Machine

/-! ## The check (R134) -/

theorem crcBit_eq (crc : BitVec 16) (bit : Bool) :
    crcBit crc bit = if crc.getLsbD 15 = bit then crc <<< 1 else (crc <<< 1) ^^^ 0x1021#16 := by
  have top : crc.msb = crc.getLsbD 15 := BitVec.msb_eq_getLsbD_last crc
  unfold crcBit
  rw [top]
  by_cases same : crc.getLsbD 15 = bit
  · rw [if_pos same, if_neg fun differs => bne_iff_ne.mp differs same]
  · rw [if_neg same, if_pos (bne_iff_ne.mpr same)]

theorem crcOf_snoc (chars : List Byte) (b : Byte) : crcOf (chars ++ [b]) = [7, 6, 5, 4, 3, 2, 1, 0].foldl
    (fun (x : BitVec 16) i => if x.getLsbD 15 = b.getLsbD i then x <<< 1 else (x <<< 1) ^^^ 0x1021#16) (crcOf chars) := by
  have step : crcOf (chars ++ [b]) = crcByte (crcOf chars) b := List.foldl_append
  rw [step, crcByte]
  exact congrArg (fun f => List.foldl f (crcOf chars) [7, 6, 5, 4, 3, 2, 1, 0]) (funext fun x => funext fun i => crcBit_eq x (bitOf b i))

theorem checkChars_toNat (chars : List Byte) :
    (checkChars chars).map BitVec.toNat = [(crcOf chars).toNat / 256, (crcOf chars).toNat % 256] := by
  have bound := (crcOf chars).isLt
  have high : (byteOf ((crcOf chars).toNat / 256)).toNat = (crcOf chars).toNat / 256 := byteOf_toNat (by omega)
  rw [checkChars, List.map_cons, List.map_cons, high]
  rfl

/-! ## A frame to its end -/

/-- The receiver after the last of several characters. -/
theorem hearAll_eq (chars : List Byte) (b : Byte) (r : LineReceiver) : hearAll (chars ++ [b]) r = { r with
    lineBusy := busyAfter (plainChar b), heard := true
    busySince := r.busySince || r.heard || decide (2 ≤ (chars ++ [b]).length) || busyAfter (plainChar b) } := by
  obtain ⟨state, taken, openerPhase⟩ := hearAll_kept (chars ++ [b]) r
  obtain ⟨lineBusy, heard, busySince⟩ := hearAll_snoc chars b r
  rw [← busySince, ← state, ← taken, ← openerPhase, ← lineBusy, ← heard]

/-- The node with another memory for the quiet test. -/
def withSince (v : Bool) (s : State) : State := s.setReceiver { s.receiver with busySince := v }

theorem queueFrame_withSince (f : RxFrame) (v : Bool) (s : State) : queueFrame f (withSince v s) = withSince v (queueFrame f s) := by
  unfold queueFrame
  by_cases room : s.dispatcher.fifo.length < 4
  · rw [if_pos room, if_pos (by exact room)]
    rfl
  · rw [if_neg room, if_neg (by exact room)]
    rfl

theorem validFrame_withSince (f : RxFrame) (v : Bool) (s : State) : validFrame f (withSince v s) = withSince v (validFrame f s) := by
  unfold validFrame
  by_cases clash : (!f.own && s.isOwn f.source) = true
  · rw [if_pos clash, if_pos (by exact clash)]
    rfl
  · rw [if_neg clash, if_neg (by exact clash)]
    exact queueFrame_withSince f v s

/-- The quiet test's memory is not looked at where a frame ends. -/
theorem completeFrame_withSince (chars : List Byte) (k : NoticeKind) (own v : Bool) (s : State) :
    completeFrame chars k own (withSince v s) = withSince v (completeFrame chars k own s) := by
  unfold completeFrame
  dsimp only
  by_cases good : checkChars (chars.take (chars.length - 2)) = chars.drop (chars.length - 2)
  · rw [if_pos good, if_pos good]
    exact validFrame_withSince _ v (endAssembly s)
  · rw [if_neg good, if_neg good]
    rfl

section
variable {a : Station} {k : NoticeKind} {body : List Byte} {x y : Byte} {now : List Byte} {s : State}

/-- The node at the end of a frame that has been heard whole. -/
def heardWhole (r : LineReceiver) (last : Byte) (since : Bool) (s : State) : State := s.setReceiver { r with
  state := .hunt, taken := [], lineBusy := busyAfter (plainChar last), heard := true, busySince := since }

theorem takeChars_framed_end (active : s.active = true) (silent : sending s = none) (frame : s.receiver.state = .frame)
    (fits : body.length = bodyLength k a.val) (split : s.receiver.taken ++ now = framed a k body ++ [x, y]) (some : now ≠ []) :
    takeChars now s = completeFrame (framed a k body ++ [x, y]) k false (s.setReceiver { s.receiver with
      taken := framed a k body ++ [x, y], lineBusy := busyAfter (plainChar y), heard := true
      busySince := s.receiver.busySince || s.receiver.heard || decide (2 ≤ now.length) || busyAfter (plainChar y) }) := by
  obtain ⟨n, b, rfl⟩ := (List.eq_nil_or_concat now).resolve_left some
  rw [List.concat_eq_append] at split ⊢
  have last : b = y := by
    have ends : (s.receiver.taken ++ n) ++ [b] = (framed a k body ++ [x]) ++ [y] := by simpa using split
    exact List.singleton_inj.mp (List.append_inj_right' ends rfl)
  subst last
  rw [takeChars_framed_last active silent frame fits split, hearAll_eq]

/-- A whole frame after its opener. -/
theorem takeChars_framed_whole (active : s.active = true) (silent : sending s = none) (frame : s.receiver.state = .frame)
    (empty : s.receiver.taken = []) (fits : body.length = bodyLength k a.val) :
    takeChars (framed a k body ++ [x, y]) s = completeFrame (framed a k body ++ [x, y]) k false (s.setReceiver { s.receiver with
      taken := framed a k body ++ [x, y], lineBusy := busyAfter (plainChar y), heard := true, busySince := true }) := by
  have long : 2 ≤ (framed a k body ++ [x, y]).length := by simp [framed]
  have ends := takeChars_framed_end (now := framed a k body ++ [x, y]) active silent frame fits (by rw [empty]; rfl) (by simp)
  rw [decide_eq_true long, Bool.or_true, Bool.true_or] at ends
  exact ends

/-- The part that ends a frame does what the whole frame does, but for the quiet test's memory. -/
theorem takeChars_framed_rest (active : s.active = true) (silent : sending s = none) (frame : s.receiver.state = .frame)
    (fits : body.length = bodyLength k a.val) (split : s.receiver.taken ++ now = framed a k body ++ [x, y]) (some : now ≠ []) :
    takeChars now s = withSince
      (s.receiver.busySince || s.receiver.heard || decide (2 ≤ now.length) || busyAfter (plainChar y))
      (takeChars (framed a k body ++ [x, y]) (s.setReceiver { s.receiver with taken := [] })) ∧
    (takeChars (framed a k body ++ [x, y]) (s.setReceiver { s.receiver with taken := [] })).receiver.lineBusy = busyAfter (plainChar y) := by
  rw [takeChars_framed_whole (s := s.setReceiver { s.receiver with taken := [] }) (by exact active) (by exact silent) (by exact frame)
    rfl fits, takeChars_framed_end active silent frame fits split some, ← completeFrame_withSince]
  exact ⟨rfl, (completeFrame_sameLine _ _ _ _).lineBusy⟩

/-- A whole frame with the right check is a valid frame. -/
theorem takeChars_valid (active : s.active = true) (silent : sending s = none) (frame : s.receiver.state = .frame)
    (empty : s.receiver.taken = []) (fits : body.length = bodyLength k a.val) :
    takeChars (framed a k body ++ checkChars (framed a k body)) s =
      validFrame { source := a, kind := k, body := body, own := false, openerPhase := s.receiver.openerPhase }
        (heardWhole s.receiver ((checkChars (framed a k body)).getD 1 0) true s) :=
  (takeChars_framed_whole active silent frame empty fits).trans completeFrame_framed

/-- A whole frame with a wrong check is counted. -/
theorem takeChars_wrong (active : s.active = true) (silent : sending s = none) (frame : s.receiver.state = .frame)
    (empty : s.receiver.taken = []) (fits : body.length = bodyLength k a.val) (wrong : [x, y] ≠ checkChars (framed a k body)) :
    takeChars (framed a k body ++ [x, y]) s = countCheckError (heardWhole s.receiver y true s) :=
  (takeChars_framed_whole active silent frame empty fits).trans (completeFrame_mismatch wrong)

end

/-! ## What is discarded at once -/

theorem frameChar_of_badKind {h : Byte} {own : Bool} {s : State} (empty : s.receiver.taken = []) (bad : h.toNat % 16 = 15) :
    frameChar h own s = discardFrame .resync s := by
  have none : kindOfCode (lowHalf (charAt (s.receiver.taken ++ [h]) 0)) = Option.none := by
    rw [empty]
    exact kindOfCode_of_none bad
  unfold frameChar
  dsimp only
  rw [none]

theorem frameChar_of_badLength {a : Station} {k : NoticeKind} {l : Byte} {own : Bool} {s : State}
    (one : s.receiver.taken = [byteOf (a.val * 16 + kindCode k)]) (bad : l.toNat ≠ bodyLength k a.val) :
    frameChar l own s = discardFrame .resync s := by
  have code : kindOfCode (lowHalf (charAt (s.receiver.taken ++ [l]) 0)) = some k := by
    rw [one]
    exact (congrArg kindOfCode (header_halves a k).1).trans (kindOfCode_kindCode k)
  have source : highHalf (charAt (s.receiver.taken ++ [l]) 0) = a.val := by
    rw [one]
    exact (header_halves a k).2
  have length : charAt (s.receiver.taken ++ [l]) 1 = l := by rw [one]; rfl
  unfold frameChar
  dsimp only
  rw [code]
  dsimp only
  rw [source, length, one, if_neg (by simp), if_pos bad]

/-! ## Readiness -/

theorem takeChars_held (chars : List Byte) (s : State) : (takeChars chars s).loader.held = s.loader.held := by
  refine takeChars_keeps (P := fun u => u.loader.held = s.loader.held) (fun ch u hu => ?_) chars s rfl
  refine takeChar_keeps (P := fun u => u.loader.held = s.loader.held) ?_ ?_ ?_ ?_ ?_ ?_ ?_ ch u hu
  · exact fun _ _ h => h
  · exact fun _ h => h
  · exact fun f v h => by simpa using h
  · exact fun _ h => h
  · exact fun f v h => by simpa using h
  · exact fun _ _ h => h
  · exact fun _ h => h

theorem takeChars_ready (chars : List Byte) {s : State} (ready : s.ready) : (takeChars chars s).ready := by
  obtain ⟨notHeld, due, untaken⟩ := ready
  have event : (takeChars chars s).event = s.event := by simp
  exact ⟨(takeChars_held chars s).trans notHeld, by rw [event, due], by rw [event, untaken]⟩

/-- CONFIG-FAULT leaves every output off. -/
theorem enterConfigFault_outputs (s : State) : (∀ c : Channel, (enterConfigFault s).outputA c = false) ∧
    (enterConfigFault s).sparkEnable = false := by
  refine ⟨fun c => ?_, ?_⟩
  · unfold State.outputA
    rw [enterConfigFault_elements, enterConfigFault_gas]
    split <;> rfl
  · have notRun : (enterConfigFault s).inRun = false := by
      simp [State.inRun, enterConfigFault]
    rw [State.sparkEnable, notRun, Bool.false_and]

/-- Settles O57: what is built is received, in one command or several. -/
theorem builtFrameIsReceivedWhole : Obligations.BuiltFrameIsReceivedWhole := by
  refine ⟨⟨rfl, crcOf_snoc⟩, checkChars_toNat, fun source k body => rfl, ⟨by decide, by decide, fun a far => ?_⟩,
    fun xs ys s t ready first => ?_, fun a k body now later s ready active silent frame fits split => ⟨fun more => ?_, fun none some => ?_⟩,
    fun a k body s ready active silent frame empty fits => ?_⟩
  · have node : ¬ a < 8 := by omega
    simp only [List.map_cons, List.map_nil, bodyLength, if_neg node]
  · rw [exec_frameReceived ready] at first ⊢
    obtain rfl := Host.Outcome.next.inj first
    rw [exec_frameReceived (takeChars_ready xs ready), takeChars_append]
  · rw [exec_frameReceived ready, takeChars_framed_part active silent frame fits (by exact split) more]
    obtain ⟨state, -, openerPhase⟩ := hearAll_kept now s.receiver
    exact ⟨_, rfl, rfl, state.trans frame, rfl, openerPhase⟩
  · subst none
    rw [List.append_nil] at split
    obtain ⟨part, line⟩ := takeChars_framed_rest active silent frame fits (by exact split) some
      (x := byteOf ((crcOf (framed a k body)).toNat / 256)) (y := byteOf (crcOf (framed a k body)).toNat)
    refine ⟨_, _, exec_frameReceived ready now, exec_frameReceived (by exact ready) _, ?_, ?_⟩
    · rw [part]
      rfl
    · refine Eq.trans ?_ (congrArg (fun v => s.receiver.busySince || s.receiver.heard || decide (2 ≤ now.length) || v) line).symm
      rw [part]
      rfl
  intro checked got counted broken f run last
  have valid := takeChars_valid active silent frame empty fits
  refine ⟨fun other room => ?_, fun other full => ?_, fun clash => ?_, fun x y wrong => ?_, fun h bad => ?_, fun l bad => ?_⟩
  · have queued : ¬ (!false && s.isOwn a) = true := by simp [other]
    rw [show run = _ from exec_frameReceived ready _]
    refine congrArg Host.Outcome.next (valid.trans ?_)
    unfold validFrame
    rw [if_neg (by exact queued)]
    exact if_pos room
  · have queued : ¬ (!false && s.isOwn a) = true := by simp [other]
    have noRoom : ¬ s.dispatcher.fifo.length < 4 := by omega
    rw [show run = _ from exec_frameReceived ready _]
    refine congrArg Host.Outcome.next (valid.trans ?_)
    unfold validFrame
    rw [if_neg (by exact queued)]
    exact if_neg noRoom
  · have clashes : (!false && s.isOwn a) = true := by simp [clash]
    have fault := valid.trans (if_pos (by exact clashes))
    obtain ⟨outputs, sparks⟩ := enterConfigFault_outputs (heardWhole s.receiver ((checkChars (framed a k body)).getD 1 0) true s)
    refine ⟨_, (exec_frameReceived ready _).trans (congrArg Host.Outcome.next fault), enterConfigFault_eq _, fun c =>
      ⟨enterConfigFault_elements c _, enterConfigFault_gas c _, outputs c⟩, sparks⟩
  · rw [exec_frameReceived ready]
    exact congrArg Host.Outcome.next (takeChars_wrong active silent frame empty fits wrong)
  · rw [exec_frameReceived ready, takeChars_cons, takeChars_nil, takeChar_of_silent active silent, receiveChar_inFrame (by exact frame),
      frameChar_of_badKind (by exact empty) bad]
    rfl
  · have first : takeChar (plainChar (byteOf (a.val * 16 + kindCode k))) s = s.setReceiver
        { s.receiver.hearing (busyAfter (plainChar (byteOf (a.val * 16 + kindCode k)))) with
          taken := [byteOf (a.val * 16 + kindCode k)] } := by
      have part := takeChars_framed_part (now := [byteOf (a.val * 16 + kindCode k)]) (x := 0) (y := 0) active silent frame fits
        (later := byteOf body.length :: body ++ [0, 0]) (by rw [empty]; rfl) (by simp)
      rw [empty] at part
      exact part
    rw [exec_frameReceived ready, takeChars_cons, takeChars_cons, takeChars_nil, first, takeChar_of_silent (by exact active) (by exact silent),
      receiveChar_inFrame (by exact frame), frameChar_of_badLength (a := a) (k := k) rfl (by rw [← fits]; exact bad)]
    have since : (s.receiver.hearing (busyAfter (plainChar (byteOf (a.val * 16 + kindCode k))))).hearing (busyAfter (plainChar l)) =
        (s.receiver.hearing true).hearing (busyAfter (plainChar l)) := by
      simp [LineReceiver.hearing]
    exact congrArg (fun r : LineReceiver => Host.Outcome.next { s with
      receiver := { r with state := .resync, taken := [] }, counters := counted }) since

end Sys2Proof.Machine
end

section
/-!
PROOF. The own frame on the line (R136 to R138, R145, R163, R166): the comparator, and what the success does.
-/

namespace Sys2Proof.Machine

/-! ## The flag of the frame sent (R145) -/

theorem pointer_only_flags (x : Transmitter) (k : ChannelRequest) (c : Channel) (q : Request) :
    flagOf (setChannelFlags x k { channelFlags x k with pointer := c }) q = flagOf x q := by
  rcases q with _ | _ | _ | ⟨l, d⟩
  case ofChannel => cases k <;> cases l <;> rfl
  all_goals cases k <;> rfl

theorem pointer_setChannelFlags (x : Transmitter) (k l : ChannelRequest) (c : Channel) :
    (channelFlags (setChannelFlags x k { channelFlags x k with pointer := c }) l).pointer =
      if l = k then c else (channelFlags x l).pointer := by
  cases k <;> cases l <;> rfl

section
variable (r : Request) (mark : BitVec 8) (tx : Transmitter)

/-- The flags and pointers with the flag of a frame sent cleared. -/
def clearedFlag : Transmitter := if (flagOf tx r).mark = mark then setFlagOf tx r (lowered (flagOf tx r)) else tx

theorem settleFlag_of_channel (k : ChannelRequest) (c : Channel) : settleFlag (.ofChannel k c) mark tx =
    setChannelFlags (clearedFlag (.ofChannel k c) mark tx) k
      { channelFlags (clearedFlag (.ofChannel k c) mark tx) k with pointer := c } := rfl

theorem settleFlag_of_node (node : ∀ k c, r ≠ .ofChannel k c) : settleFlag r mark tx = clearedFlag r mark tx := by
  cases r with
  | ofChannel k c => exact absurd rfl (node k c)
  | haltAll | presence | counts => rfl

theorem flagOf_clearedFlag (q : Request) : flagOf (clearedFlag r mark tx) q =
    if q = r ∧ (flagOf tx r).mark = mark then lowered (flagOf tx r) else flagOf tx q := by
  unfold clearedFlag
  by_cases same : (flagOf tx r).mark = mark
  · rw [if_pos same, flagOf_setFlagOf]
    by_cases here : q = r
    · rw [if_pos here, if_pos ⟨here, same⟩]
    · rw [if_neg here, if_neg fun h => here h.1]
  · rw [if_neg same, if_neg fun h => same h.2]

theorem flagOf_settleFlag (q : Request) : flagOf (settleFlag r mark tx) q =
    if q = r ∧ (flagOf tx r).mark = mark then lowered (flagOf tx r) else flagOf tx q := by
  rw [← flagOf_clearedFlag]
  cases r with
  | ofChannel k c => exact pointer_only_flags _ k c q
  | haltAll | presence | counts => rfl

theorem pointer_clearedFlag (l : ChannelRequest) : (channelFlags (clearedFlag r mark tx) l).pointer = (channelFlags tx l).pointer := by
  unfold clearedFlag
  split
  · exact pointer_setFlagOf _ _ _ _
  · rfl

theorem pointer_settleFlag_same (k : ChannelRequest) (c : Channel) :
    (channelFlags (settleFlag (.ofChannel k c) mark tx) k).pointer = c := by
  rw [settleFlag_of_channel, pointer_setChannelFlags, if_pos rfl]

theorem pointer_settleFlag_other (l : ChannelRequest) (other : ∀ c, r ≠ .ofChannel l c) :
    (channelFlags (settleFlag r mark tx) l).pointer = (channelFlags tx l).pointer := by
  cases r with
  | ofChannel k c =>
    rw [settleFlag_of_channel, pointer_setChannelFlags, if_neg fun same => other c (by rw [same]), pointer_clearedFlag]
  | haltAll | presence | counts => exact pointer_clearedFlag _ mark tx l

end

/-! ## The owner's part (R163, R166) -/

theorem ownerSuccess_counters (x : Selection) (s : State) : (ownerSuccess x s).counters =
    if x.request = .counts then reduceCounters x.counters s.counters else s.counters := by
  unfold ownerSuccess
  rcases x.request with _ | _ | _ | ⟨k, c⟩
  case ofChannel =>
    rw [if_neg (by simp)]
    cases k
    case state =>
      dsimp only
      unfold clearRefused
      split <;> rfl
    all_goals rfl
  all_goals rfl

theorem ownerSuccess_program (x : Selection) (s : State) (c : Channel) : (ownerSuccess x s).programs[c] =
    if x.request = .ofChannel .state c ∧ x.refusedShown = true ∧ s.programs[c].refusalMark = x.refusalMark then
      { s.programs[c] with refused := false }
    else s.programs[c] := by
  by_cases state : ∃ d, x.request = .ofChannel .state d
  · obtain ⟨d, request⟩ := state
    have clears : ownerSuccess x s = clearRefused x d s := by
      unfold ownerSuccess
      rw [request]
    rw [clears, request]
    unfold clearRefused
    by_cases here : d = c
    · subst here
      by_cases clear : x.refusedShown = true ∧ s.programs[d].refusalMark = x.refusalMark
      · rw [if_pos clear, if_pos ⟨rfl, clear⟩]
        exact getElem_set_same _ _ d
      · rw [if_neg clear, if_neg fun h => clear h.2]
    · have other : Request.ofChannel .state d ≠ .ofChannel .state c := fun same => here (by injection same)
      refine Eq.trans ?_ (if_neg fun h => other h.1).symm
      split
      · exact getElem_set_other _ _ (Ne.symm here)
      · rfl
  · have kept : (ownerSuccess x s).programs = s.programs := by
      unfold ownerSuccess
      split
      next d request => exact absurd ⟨d, request⟩ state
      all_goals rfl
    rw [kept, if_neg fun h => state ⟨c, h.1⟩]

theorem ownerSuccess_setReceiver (x : Selection) (r : LineReceiver) (s : State) :
    ownerSuccess x (s.setReceiver r) = (ownerSuccess x s).setReceiver r := by
  unfold ownerSuccess
  split
  next c request =>
    unfold clearRefused
    by_cases clear : x.refusedShown = true ∧ s.programs[c].refusalMark = x.refusalMark
    · rw [if_pos clear, if_pos (by exact clear)]
      rfl
    · rw [if_neg clear, if_neg (by exact clear)]
  all_goals rfl

theorem transmitSuccess_setReceiver (x : Selection) (r : LineReceiver) (s : State) :
    transmitSuccess x (s.setReceiver r) = (transmitSuccess x s).setReceiver r :=
  ownerSuccess_setReceiver x r (s.setTx { settleFlag x.request x.mark s.tx with selection := none, sent := none })

/-! ## The comparator (R136) -/

section
variable {a : Station} {k : NoticeKind} {body : List Byte} {x : Selection} {c d b : Byte} {now later : List Byte} {s : State}

/-- The next character of a frame that the node sends. -/
theorem sending_next (selection : s.tx.selection = some x) (sent : s.tx.sent = some (s.receiver.taken.length + 1))
    (frame : x.frame = openerChar :: (s.receiver.taken ++ b :: later)) :
    sending s = some (x, s.receiver.taken.length + 1, b) := by
  refine sending_eq_some selection sent ?_
  rw [frame, List.getElem?_cons_succ]
  simp

/-- The characters of the own frame that go before its last are compared equal and kept. -/
theorem takeChars_own_part (active : s.active = true) (selection : s.tx.selection = some x)
    (sent : s.tx.sent = some (s.receiver.taken.length + 1)) (state : s.receiver.state = .frame)
    (fits : body.length = bodyLength k a.val) (frame : x.frame = openerChar :: (framed a k body ++ [c, d]))
    (split : s.receiver.taken ++ (now ++ later) = framed a k body ++ [c, d]) (more : later ≠ []) :
    takeChars now s = (s.setReceiver { hearAll now s.receiver with taken := s.receiver.taken ++ now }).setTx
      { s.tx with sent := some ((s.receiver.taken ++ now).length + 1) } := by
  induction now generalizing s with
  | nil =>
    rw [List.append_nil, ← sent]
    rfl
  | cons b rest ih =>
    have rejoined : s.receiver.taken ++ b :: (rest ++ later) = framed a k body ++ [c, d] := split
    have sends := sending_next selection sent (by rw [frame, ← rejoined])
    have notLast : s.receiver.taken.length + 1 + 1 ≠ x.frame.length := by
      have long := List.length_pos_iff.mpr more
      rw [frame, ← rejoined]
      simp only [List.length_append, List.length_cons]
      omega
    have kept : takeChar (plainChar b) s = (s.setReceiver
        { s.receiver.hearing (busyAfter (plainChar b)) with taken := s.receiver.taken ++ [b] }).setTx
        { s.tx with sent := some ((s.receiver.taken ++ [b]).length + 1) } := by
      rw [takeChar_of_sending active sends, if_pos ⟨rfl, rfl⟩, if_neg notLast, receiveChar_inFrame (by exact state),
        frameChar_framed (x := c) (y := d) fits (by exact rejoined), if_neg (by simp [more]), List.length_append]
      rfl
    rw [takeChars_cons, kept, ih (by exact active) (by exact selection) (by rfl) (by exact state)]
    · rw [show b :: rest = [b] ++ rest from rfl, ← List.append_assoc]
      exact congrArg (fun r => (s.setReceiver { r with taken := s.receiver.taken ++ [b] ++ rest }).setTx
        { s.tx with sent := some ((s.receiver.taken ++ [b] ++ rest).length + 1) }) (hearAll_taken rest _ _)
    · rw [← rejoined]
      simp [State.setReceiver, State.setTx]

/-- With the last character the transmission has succeeded, and the frame is complete. -/
theorem takeChars_own_whole (active : s.active = true) (selection : s.tx.selection = some x) (sent : s.tx.sent = some 1)
    (state : s.receiver.state = .frame) (empty : s.receiver.taken = []) (fits : body.length = bodyLength k a.val)
    (frame : x.frame = openerChar :: (framed a k body ++ checkChars (framed a k body))) :
    ∃ n, takeChars (framed a k body ++ checkChars (framed a k body)) s =
      queueFrame { source := a, kind := k, body := body, own := true, openerPhase := s.receiver.openerPhase }
        (heardWhole s.receiver ((checkChars (framed a k body)).getD 1 0) true
          (transmitSuccess x (s.setTx { s.tx with sent := n }))) := by
  obtain ⟨c, d, check⟩ : ∃ c d, checkChars (framed a k body) = [c, d] := ⟨_, _, rfl⟩
  have split : s.receiver.taken ++ ((framed a k body ++ [c]) ++ [d]) = framed a k body ++ [c, d] := by
    rw [empty, List.append_assoc]
    rfl
  have part := takeChars_own_part active selection (by rw [sent, empty]; rfl) state fits (check ▸ frame) split (by simp)
  rw [empty, List.nil_append, hearAll_eq] at part
  have parts : framed a k body ++ checkChars (framed a k body) = (framed a k body ++ [c]) ++ [d] := by
    rw [check, List.append_assoc]
    rfl
  refine ⟨some ((framed a k body ++ [c]).length + 1), ?_⟩
  rw [parts, takeChars_append, part, takeChars_cons, takeChars_nil,
    takeChar_of_sending (by exact active) (sending_next (b := d) (later := []) (by exact selection) (by rfl) (by rw [frame, parts]; rfl)),
    if_pos ⟨rfl, rfl⟩, if_pos (by rw [frame, parts]; simp [State.setReceiver, State.setTx])]
  have heard : hear (plainChar d) ((s.setReceiver { s.receiver with
        taken := framed a k body ++ [c], lineBusy := busyAfter (plainChar c), heard := true
        busySince := s.receiver.busySince || s.receiver.heard || decide (2 ≤ (framed a k body ++ [c]).length) ||
          busyAfter (plainChar c) }).setTx { s.tx with sent := some ((framed a k body ++ [c]).length + 1) }) =
      (s.setTx { s.tx with sent := some ((framed a k body ++ [c]).length + 1) }).setReceiver { s.receiver with
        taken := framed a k body ++ [c], lineBusy := busyAfter (plainChar d), heard := true, busySince := true } :=
    congrArg (fun v => (s.setTx { s.tx with sent := some ((framed a k body ++ [c]).length + 1) }).setReceiver { s.receiver with
      taken := framed a k body ++ [c], lineBusy := busyAfter (plainChar d), heard := true, busySince := v }) (by simp)
  rw [heard, transmitSuccess_setReceiver, receiveChar_inFrame (by exact state),
    frameChar_framed (a := a) (k := k) (body := body) (x := c) (y := d) (later := []) fits (by simp [State.setReceiver]), if_pos rfl, ← check,
    completeFrame_framed, show (checkChars (framed a k body)).getD 1 0 = d by rw [check]; rfl]
  rfl

end

/-! ## The node behind a success -/

theorem transmitSuccess_tx (x : Selection) (s : State) :
    (transmitSuccess x s).tx = { settleFlag x.request x.mark s.tx with selection := none, sent := none } := by
  simp [transmitSuccess]

theorem settleFlag_attempted (r : Request) (mark : BitVec 8) (tx : Transmitter) : (settleFlag r mark tx).attempted = tx.attempted := by
  have cleared : (clearedFlag r mark tx).attempted = tx.attempted := by
    unfold clearedFlag
    split
    · exact (setFlagOf_only tx r _).2.2.2.2
    · rfl
  cases r with
  | ofChannel k c =>
    rw [settleFlag_of_channel, ← cleared]
    cases k <;> rfl
  | haltAll | presence | counts => exact cleared

theorem transmitSuccess_eq (x : Selection) (s : State) : transmitSuccess x s = { s with
    programs := (transmitSuccess x s).programs, tx := (transmitSuccess x s).tx
    counters := if x.request = .counts then reduceCounters x.counters s.counters else s.counters } := by
  have counters : (transmitSuccess x s).counters = if x.request = .counts then reduceCounters x.counters s.counters else s.counters :=
    ownerSuccess_counters x _
  rw [State.eq_iff]
  refine ⟨by simp, rfl, by simp, by simp, by simp, by simp, by simp, by simp, by simp, by simp, rfl, counters, by simp, by simp, by simp, by simp⟩

theorem pointer_line (tx : Transmitter) (x : Option Selection) (n : Option Nat) (k : ChannelRequest) :
    (channelFlags { tx with selection := x, sent := n } k).pointer = (channelFlags tx k).pointer := by
  cases k <;> rfl

theorem queueFrame_eq (f : RxFrame) (s : State) : queueFrame f s = { s with
    counters := if 4 ≤ s.dispatcher.fifo.length then { s.counters with fifoOverflows := saturate s.counters.fifoOverflows } else s.counters
    dispatcher := if 4 ≤ s.dispatcher.fifo.length then s.dispatcher else { s.dispatcher with fifo := s.dispatcher.fifo ++ [f] } } := by
  unfold queueFrame
  by_cases full : 4 ≤ s.dispatcher.fifo.length
  · rw [if_neg (by omega), if_pos full, if_pos full]
    rfl
  · rw [if_pos (by omega), if_neg full, if_neg full]
    rfl

/-- Settles O58: the comparator goes on, and the success settles the flag and queues the frame. -/
theorem ownFrameSucceeds : Obligations.OwnFrameSucceeds := by
  intro x k body s ready active own selection frame fits last reduced full
  refine ⟨fun sent hunt => ?_, fun sent state empty => ?_⟩
  · have sends : sending s = some (x, 0, openerChar) := sending_eq_some selection sent (by rw [frame]; rfl)
    have goesOn : 0 + 1 ≠ x.frame.length := by rw [frame, buildFrame]; simp
    rw [exec_opener ready, takeChar_of_sending active sends, if_pos ⟨rfl, rfl⟩, if_neg goesOn, receiveChar_opener (by exact hunt)]
    rfl
  · obtain ⟨n, received⟩ := takeChars_own_whole (a := ⟨own, by omega⟩) active selection sent state empty (by exact fits) frame
    have taken : exec (.frameReceived x.frame.tail) s = .next _ := (exec_frameReceived ready _).trans
      (congrArg Host.Outcome.next ((congrArg (fun l => takeChars l s) (congrArg List.tail frame)).trans received))
    have tx := transmitSuccess_tx x (s.setTx { s.tx with sent := n })
    have flag : ∀ r, flagOf (transmitSuccess x (s.setTx { s.tx with sent := n })).tx r =
        if r = x.request ∧ (flagOf s.tx x.request).mark = x.mark then lowered (flagOf s.tx x.request) else flagOf s.tx r := fun r => by
      rw [tx]
      exact (flagOf_line _ none none _ r).trans ((flagOf_settleFlag _ _ _ r).trans (by
        rw [show flagOf (s.setTx { s.tx with sent := n }).tx = flagOf s.tx from funext (flagOf_line s.tx s.tx.selection n s.tx.attempted)]))
    have pointer : ∀ kind, (channelFlags (transmitSuccess x (s.setTx { s.tx with sent := n })).tx kind).pointer =
        (channelFlags (settleFlag x.request x.mark (s.setTx { s.tx with sent := n }).tx) kind).pointer := fun kind => by
      rw [tx, pointer_line]
    have counters : (transmitSuccess x (s.setTx { s.tx with sent := n })).counters = reduced := ownerSuccess_counters x _
    have dispatcher : (transmitSuccess x (s.setTx { s.tx with sent := n })).dispatcher = s.dispatcher := by simp
    have whole : queueFrame { source := ⟨own, by omega⟩, kind := k, body := body, own := true, openerPhase := s.receiver.openerPhase }
        (heardWhole s.receiver last true (transmitSuccess x (s.setTx { s.tx with sent := n }))) =
        { heardWhole s.receiver last true (transmitSuccess x (s.setTx { s.tx with sent := n })) with
          counters := if full then { reduced with fifoOverflows := saturate reduced.fifoOverflows } else reduced
          dispatcher := if full then s.dispatcher else { s.dispatcher with fifo := s.dispatcher.fifo ++
            [{ source := ⟨own, by omega⟩, kind := k, body := body, own := true, openerPhase := s.receiver.openerPhase }] } } := by
      rw [queueFrame_eq, show (heardWhole s.receiver last true (transmitSuccess x (s.setTx { s.tx with sent := n }))).counters = reduced from counters,
        show (heardWhole s.receiver last true (transmitSuccess x (s.setTx { s.tx with sent := n }))).dispatcher = s.dispatcher from dispatcher]
    rw [show (checkChars (framed ⟨own, by omega⟩ k body)).getD 1 0 = last from rfl, whole] at taken
    refine ⟨_, taken, ?_, (congrArg Transmitter.selection tx :), (congrArg Transmitter.sent tx :),
      (congrArg Transmitter.attempted tx :).trans (settleFlag_attempted _ _ _), fun r other => (flag r).trans (if_neg fun h => other h.1),
      (flag x.request).trans ?_, fun kind c request => (pointer kind).trans ?_, fun kind other => (pointer kind).trans ?_,
      fun c => ownerSuccess_program x _ c⟩
    · rw [State.eq_iff]
      refine ⟨?_, rfl, ?_, ?_, ?_, ?_, ?_, ?_, rfl, rfl, rfl, rfl, ?_, ?_, ?_, ?_⟩
      all_goals simp [heardWhole]
    · by_cases same : (flagOf s.tx x.request).mark = x.mark
      · rw [if_pos ⟨rfl, same⟩]
        simp [lowered, same]
      · rw [if_neg fun h => same h.2]
        rw [show ((flagOf s.tx x.request).mark != x.mark) = true from bne_iff_ne.mpr same, Bool.and_true]
        rfl
    · rw [request]
      exact pointer_settleFlag_same _ _ kind c
    · rw [pointer_settleFlag_other _ _ _ kind other]
      exact pointer_line s.tx s.tx.selection n kind

end Sys2Proof.Machine
end

section
/-!
PROOF. The selection (R141) and the bodies of the node's own notices (R151 to R153, R157, R160).
-/

namespace Sys2Proof.Machine

/-! ## The order of the requests (R141) -/

/-- The channels in the order in which a kind with this rotation pointer serves them. -/
def rotation (pointer : Channel) : List Channel := [pointer + 1, pointer + 2, pointer + 3, pointer]

/-- The requests of a per-channel kind in the order of its rotation. -/
def kindOrder (tx : Transmitter) (k : ChannelRequest) : List Request := (rotation (channelFlags tx k).pointer).map (.ofChannel k)

/-- Every request, in the order in which the selection looks at them. -/
def requestOrder (tx : Transmitter) : List Request :=
  [.haltAll] ++ (kindOrder tx .sparkFree ++ (kindOrder tx .release ++ (kindOrder tx .spark ++ (kindOrder tx .claim ++
    ([.presence] ++ (kindOrder tx .state ++ [.counts]))))))

theorem nodeRequest_eq (tx : Transmitter) (r : Request) :
    nodeRequest r (flagOf tx r) = [r].find? fun q => (flagOf tx q).isSet := by
  unfold nodeRequest
  cases set : (flagOf tx r).isSet <;> simp [set]

theorem servedRequest_eq (tx : Transmitter) (k : ChannelRequest) :
    servedRequest tx k = (kindOrder tx k).find? fun q => (flagOf tx q).isSet := by
  rw [kindOrder, List.find?_map]
  rfl

/-- The selection is the first request in the order with its flag set. -/
theorem chooseRequest_eq (tx : Transmitter) : chooseRequest tx = (requestOrder tx).find? fun q => (flagOf tx q).isSet := by
  unfold requestOrder
  simp only [List.find?_append, ← servedRequest_eq, ← nodeRequest_eq]
  rfl

/-- Where a request stands in the order. -/
def requestKey (tx : Transmitter) : Request → Nat
  | .ofChannel k c => 4 * requestRank (.ofChannel k c) + rotationDistance (channelFlags tx k).pointer c
  | .haltAll => 4 * requestRank .haltAll
  | .presence => 4 * requestRank .presence
  | .counts => 4 * requestRank .counts

theorem rotation_distances (p : Channel) : (rotation p).map (rotationDistance p) = [0, 1, 2, 3] := by
  revert p
  decide

theorem kindOrder_keys (tx : Transmitter) (k : ChannelRequest) : (kindOrder tx k).map (requestKey tx) =
    [0, 1, 2, 3].map fun n => 4 * requestRank (.ofChannel k 0) + n := by
  have rank : ∀ c, requestRank (.ofChannel k c) = requestRank (.ofChannel k 0) := fun c => by cases k <;> rfl
  rw [kindOrder, List.map_map, ← rotation_distances (channelFlags tx k).pointer, List.map_map]
  refine List.map_congr_left fun c _ => ?_
  simp [requestKey, rank c]

theorem requestOrder_sorted (tx : Transmitter) : (requestOrder tx).Pairwise fun q r => requestKey tx q < requestKey tx r := by
  have keys : ((requestOrder tx).map (requestKey tx)).Pairwise (· < ·) := by
    unfold requestOrder
    simp only [List.map_append, kindOrder_keys, List.map_cons, List.map_nil, requestKey]
    decide
  exact List.pairwise_map.mp keys

theorem mem_requestOrder (tx : Transmitter) (r : Request) : r ∈ requestOrder tx := by
  have all : ∀ p c : Channel, c ∈ rotation p := by decide
  have kind : ∀ k c, Request.ofChannel k c ∈ kindOrder tx k := fun k c => List.mem_map_of_mem (all _ c)
  unfold requestOrder
  simp only [List.mem_append, List.mem_singleton]
  cases r with
  | haltAll => simp
  | presence => simp
  | counts => simp
  | ofChannel k c =>
    have here := kind k c
    cases k <;> simp [here]

/-- The request whose flag is set and that stands before every other such request is the one chosen. -/
theorem chooseRequest_of_first {tx : Transmitter} {r : Request} (set : (flagOf tx r).isSet = true)
    (first : ∀ q, (flagOf tx q).isSet = true → q = r ∨ requestKey tx r < requestKey tx q) : chooseRequest tx = some r := by
  rw [chooseRequest_eq]
  obtain ⟨q, found⟩ := Option.isSome_iff_exists.mp (List.find?_isSome (p := fun q => (flagOf tx q).isSet).mpr ⟨r, mem_requestOrder tx r, set⟩)
  rw [found]
  obtain ⟨setQ, before, after, order, unset⟩ := List.find?_eq_some_iff_append.mp found
  rcases first q setQ with same | later
  · rw [same]
  · have sorted := requestOrder_sorted tx
    have mem := mem_requestOrder tx r
    rw [order] at sorted mem
    rcases List.mem_append.mp mem with early | late
    · have clear := unset r early
      simp [set] at clear
    · rcases List.mem_cons.mp late with same | behind
      · rw [same]
      · have ahead := (List.pairwise_cons.mp (List.pairwise_append.mp sorted).2.1).1 r behind
        omega

theorem chooseRequest_of_none {tx : Transmitter} (none : ∀ r, (flagOf tx r).isSet = false) : chooseRequest tx = Option.none := by
  rw [chooseRequest_eq, List.find?_eq_none]
  exact fun r _ => by simp [none r]

theorem requestKey_bounds (tx : Transmitter) (r : Request) :
    4 * requestRank r ≤ requestKey tx r ∧ requestKey tx r ≤ 4 * requestRank r + 3 := by
  cases r with
  | ofChannel k c =>
    have near : rotationDistance (channelFlags tx k).pointer c < 4 := Nat.mod_lt _ (by decide)
    simp only [requestKey]
    omega
  | haltAll => simp [requestKey]
  | presence => simp [requestKey]
  | counts => simp [requestKey]

theorem takeSelect_of_idle {s : State} (idle : s.inRun = false ∨ s.tx.sent.isSome = true) : takeSelect s = s := by
  unfold takeSelect
  rcases idle with stopped | sends
  · exact if_neg (by simp [stopped])
  · obtain ⟨n, sent⟩ := Option.isSome_iff_exists.mp sends
    exact if_neg (by simp [sent])

theorem takeSelect_of_run {s : State} (run : s.inRun = true) (sent : s.tx.sent = none) :
    takeSelect s = s.setTx { s.tx with selection := (chooseRequest s.tx).map (selectionOf s) } :=
  if_pos (by simp [run, sent])

/-! ## The bodies (section 9.6) -/

theorem summaryChars_eq (s : State) (c : Channel) :
    (s.kind c = .unused → summaryChars s c = [byteOf 0, byteOf 0, byteOf 0]) ∧
    (s.kind c = .gas → summaryChars s c = [byteOf (2 + if wantsSpark s.gas[c].heat then 64 else 0), byteOf 0, byteOf 0]) ∧
    (s.kind c = .element → summaryChars s c =
      if asksClaim s.elements[c].heat && s.elements[c].claim.isSome then
        [byteOf (5 + 16 * ((s.elements[c].claim).getD { current := 0, slots := 0, cls := 0 }).cls),
          byteOf ((s.elements[c].claim).getD { current := 0, slots := 0, cls := 0 }).current,
          byteOf ((s.elements[c].claim).getD { current := 0, slots := 0, cls := 0 }).slots]
      else [byteOf 1, byteOf 0, byteOf 0]) := by
  unfold summaryChars
  refine ⟨fun kind => ?_, fun kind => ?_, fun kind => ?_⟩
  · rw [kind]
    rfl
  · rw [kind]
    rfl
  · rw [kind]
    dsimp only
    cases asks : asksClaim s.elements[c].heat
    · rfl
    · cases content : s.elements[c].claim with
      | none => rfl
      | some x =>
        rw [Nat.mul_comm 16]
        rfl

theorem remainingTime_of_untimed {p : Program} (untimed : p.state = .empty ∨ p.state = .ready ∨ p.state = .ended) :
    remainingTime p = 0 := by
  unfold remainingTime
  rcases untimed with state | state | state <;> rw [state]

theorem remainingTime_of_timed {p : Program} {st : Stage} (stage : currentStage p = some st) (timed : p.state = .running ∨ p.state = .held) :
    remainingTime p = if st.duration = 0 then 65535 else st.duration - p.elapsed := by
  unfold remainingTime
  rcases timed with state | state <;> rw [state, stage]

theorem claimBody_eq (s : State) (c : Channel) : claimBody s c =
    [byteOf (16 * c.val + ((s.elements[c].claim).getD { current := 0, slots := 0, cls := 0 }).cls),
      byteOf ((s.elements[c].claim).getD { current := 0, slots := 0, cls := 0 }).current,
      byteOf ((s.elements[c].claim).getD { current := 0, slots := 0, cls := 0 }).slots] := by
  unfold claimBody
  cases s.elements[c].claim <;> rw [Nat.mul_comm 16] <;> rfl

theorem stateBody_of_unused {s : State} {c : Channel} (unused : s.kind c = .unused) : stateBody s c =
    [byteOf c.val, byteOf 0, byteOf 0, byteOf 15, byteOf 0, byteOf 0, byteOf (if s.programs[c].refused then 2 else 0), byteOf 0] := by
  unfold stateBody
  dsimp only
  rw [unused]
  rfl

theorem strayShown_eq (s : State) (c : Channel) : strayShown s c = decide (s.kind c = .gas ∧ s.gas[c].stray = true) := by
  unfold strayShown
  cases s.kind c <;> simp

theorem stateBody_of_used {s : State} {c : Channel} (used : s.kind c ≠ .unused) : stateBody s c =
    [byteOf c.val, byteOf (programStateCode s.programs[c].state), byteOf (16 * s.programs[c].index + s.programs[c].repeatsDone),
      byteOf (heatCode s c), byteOf (remainingTime s.programs[c] / 256), byteOf (remainingTime s.programs[c]),
      byteOf ((if s.programs[c].alert then 1 else 0) + (if s.programs[c].refused then 2 else 0) +
        (if s.kind c = .gas ∧ s.gas[c].stray = true then 4 else 0)), byteOf (faultCodeOf s.programs[c].fault)] := by
  have stray : bitVal (strayShown s c) 4 = if s.kind c = .gas ∧ s.gas[c].stray = true then 4 else 0 := by
    rw [strayShown_eq, bitVal]
    simp only [decide_eq_true_eq]
  unfold stateBody
  dsimp only
  rw [stray, Nat.mul_comm 16]
  cases kind : s.kind c
  case unused => exact absurd kind used
  all_goals rfl

/-- Settles O60: what is selected, and the frame that it builds. -/
theorem selectionFollowsKindAndRotation : Obligations.SelectionFollowsKindAndRotation := by
  refine ⟨fun s => ⟨takeSelect_of_idle, fun run sent => ?_⟩, fun s => ?_, ⟨rfl, rfl, rfl, fun c => ⟨rfl, rfl, rfl, rfl, rfl⟩⟩,
    by decide, by decide, by decide, by decide, by decide, by decide⟩
  · refine ⟨_, takeSelect_of_run run sent, rfl, fun none => ?_, fun r asked first => ?_⟩
    · exact congrArg (Option.map (selectionOf s)) (chooseRequest_of_none none)
    · have chosen : chooseRequest s.tx = some r := by
        refine chooseRequest_of_first asked fun q set => ?_
        have here := requestKey_bounds s.tx r
        have there := requestKey_bounds s.tx q
        rcases first q set with rank | same | ⟨k, c, d, rfl, rfl, nearer⟩
        · exact .inr (by omega)
        · exact .inl same
        · have rank : requestRank (.ofChannel k c) = requestRank (.ofChannel k d) := by cases k <;> rfl
          refine .inr ?_
          simp only [requestKey]
          omega
      exact ⟨selectionOf s r, congrArg (Option.map (selectionOf s)) chosen, rfl, rfl, rfl, rfl, fun c request => by subst request; exact ⟨rfl, rfl⟩⟩
  · intro b o content claims mains summary n
    refine ⟨rfl, rfl, ?_, fun c => ?_⟩
    · have summaries : ∀ c, summaryChars s c = summary c := fun c => by
        obtain ⟨unused, gas, element⟩ := summaryChars_eq s c
        cases kind : s.kind c
        case unused => rw [unused kind]; simp only [summary, kind]; rfl
        case gas => rw [gas kind]; simp only [summary, kind]; rfl
        case element => rw [element kind]; simp only [summary, kind]; rfl
      rw [← summaries, ← summaries, ← summaries, ← summaries, Nat.mul_comm 16]
      rfl
    · intro p left
      refine ⟨claimBody_eq s c, rfl, rfl, rfl, fun unused => stateBody_of_unused ?_, fun used => stateBody_of_used (kind_of_used used),
        remainingTime_of_untimed, fun st stage timed => remainingTime_of_timed stage timed, fun element => ?_, fun gas => ?_⟩
      · simpa [State.used] using unused
      · simp only [heatCode, element]
      · simp only [heatCode, gas]

end Sys2Proof.Machine
end

section
/-!
PROOF. The restatement of a PRESENCE (R52, R98, R100): the claim entries, the spark queue and its dwell, channel by channel.
-/

namespace Sys2Proof.Machine

/-! ## The claim entries (R52) -/

/-- The content that a channel summary states. -/
def statedContent (m : Summary) : ClaimContent := { current := m.current, slots := m.slots, cls := m.cls }

/-- What the restatement of a channel makes of its key's entry. -/
def restatedEntry (b : Nat) (k : Key) (m : Summary) (old : Option ClaimEntry) : Option ClaimEntry :=
  if m.kindField = 1 ∧ m.claimed = true then
    if claimInRange b (statedContent m) then
      some { key := k, current := m.current, slots := m.slots, cls := m.cls, placedLast := (old.map ClaimEntry.placedLast).getD false }
    else old
  else none

theorem findEntry_restateEntry_same (b : Nat) (k : Key) (m : Summary) (table : List ClaimEntry) :
    findEntry k (restateEntry b k m table) = restatedEntry b k m (findEntry k table) := by
  unfold restateEntry restatedEntry
  dsimp only
  by_cases claims : m.kindField = 1 ∧ m.claimed = true
  · by_cases inRange : claimInRange b (statedContent m) = true
    · rw [if_pos claims, if_pos claims, if_pos inRange, if_pos (by exact inRange)]
      exact findEntry_putEntry_same k _ table
    · rw [if_pos claims, if_pos claims, if_neg inRange, if_neg (by exact inRange)]
  · rw [if_neg claims, if_neg claims]
    exact (findEntry_none_iff _ _).mpr fun e mem => by simpa using (List.mem_filter.mp mem).2

theorem findEntry_restateEntry_other {q k : Key} (b : Nat) (m : Summary) (table : List ClaimEntry) (other : q ≠ k) :
    findEntry q (restateEntry b k m table) = findEntry q table := by
  unfold restateEntry
  dsimp only
  split
  · split
    · exact findEntry_putEntry_other _ _ other
    · rfl
  · exact findEntry_removeEntry_other _ other

section
variable (b : Nat) (st : Fin 8) (body : List Byte)

/-- The table after the restatement of some channels. -/
def restateTable (cs : List Channel) (table : List ClaimEntry) : List ClaimEntry :=
  cs.foldl (fun t c => restateEntry b { station := st, channel := c } (readSummary body c) t) table

theorem findEntry_restateTable_other {q : Key} {cs : List Channel} (other : q.station ≠ st ∨ q.channel ∉ cs) (table : List ClaimEntry) :
    findEntry q (restateTable b st body cs table) = findEntry q table := by
  induction cs generalizing table with
  | nil => rfl
  | cons c cs ih =>
    have differs : q ≠ { station := st, channel := c } := by
      rintro rfl
      exact other.elim (fun h => h rfl) fun h => h List.mem_cons_self
    refine (ih (other.imp id fun h mem => h (List.mem_cons_of_mem _ mem)) _).trans ?_
    exact findEntry_restateEntry_other b _ table differs

theorem findEntry_restateTable_own {c : Channel} {cs : List Channel} (mem : c ∈ cs) (once : cs.Nodup) (table : List ClaimEntry) :
    findEntry { station := st, channel := c } (restateTable b st body cs table) =
      restatedEntry b { station := st, channel := c } (readSummary body c) (findEntry { station := st, channel := c } table) := by
  induction cs generalizing table with
  | nil => cases mem
  | cons d ds ih =>
    obtain ⟨absent, once'⟩ := List.nodup_cons.mp once
    by_cases here : c = d
    · subst here
      exact (findEntry_restateTable_other b st body (q := { station := st, channel := c }) (.inr absent)
        (restateEntry b { station := st, channel := c } (readSummary body c) table)).trans (findEntry_restateEntry_same b _ _ table)
    · have later : c ∈ ds := (List.mem_cons.mp mem).resolve_left here
      refine (ih later once' _).trans (congrArg (restatedEntry b _ _) ?_)
      exact findEntry_restateEntry_other b _ table fun same => here (congrArg Key.channel same)

end

/-! ## The spark queue (R98) -/

section
variable (st : Fin 8) (body : List Byte)

/-- What the restatement of a channel makes of the queue. -/
def restateQueue (q : List Key) (c : Channel) : List Key :=
  if (readSummary body c).queued then
    if { station := st, channel := c } ∈ q then q else q ++ [{ station := st, channel := c }]
  else q.filter fun k => k ≠ { station := st, channel := c }

/-- The keys that stay when some channels are restated. -/
def staysQueued (cs : List Channel) (k : Key) : Bool :=
  !(decide (k.station = st) && decide (k.channel ∈ cs) && !(readSummary body k.channel).queued)

/-- The channels whose keys join when some channels are restated. -/
def joinsQueue (cs : List Channel) (q : List Key) : List Key :=
  (cs.filter fun c => (readSummary body c).queued = true ∧ { station := st, channel := c } ∉ q).map
    fun c => { station := st, channel := c }

theorem staysQueued_nil (k : Key) : staysQueued st body [] k = true := by
  simp [staysQueued]

theorem staysQueued_cons (c : Channel) (cs : List Channel) (k : Key) : staysQueued st body (c :: cs) k =
    (staysQueued st body cs k && !(decide (k = { station := st, channel := c }) && !(readSummary body c).queued)) := by
  have same : k = { station := st, channel := c } ↔ k.station = st ∧ k.channel = c := by
    cases k
    simp
  unfold staysQueued
  by_cases here : k.channel = c
  · by_cases station : k.station = st <;> cases queued : (readSummary body c).queued <;> simp [same, here, station, queued]
  · simp [same, here]

/-- Keys that are queued keep their places, and new ones join in channel order. -/
theorem restateQueue_foldl {cs : List Channel} (once : cs.Nodup) (q : List Key) :
    cs.foldl (restateQueue st body) q = q.filter (staysQueued st body cs) ++ joinsQueue st body cs q := by
  induction cs generalizing q with
  | nil =>
    have all : q.filter (staysQueued st body []) = q := List.filter_eq_self.mpr fun k _ => staysQueued_nil st body k
    rw [all]
    exact (List.append_nil q).symm
  | cons c cs ih =>
    obtain ⟨absent, once'⟩ := List.nodup_cons.mp once
    have others : ∀ q' : List Key, (∀ d ∈ cs, ({ station := st, channel := d } : Key) ∈ q' ↔ { station := st, channel := d } ∈ q) →
        joinsQueue st body cs q' = joinsQueue st body cs q := fun q' same => by
      refine congrArg (List.map _) (List.filter_congr fun d mem => ?_)
      simp only [same d mem]
    have differs : ∀ d ∈ cs, ({ station := st, channel := d } : Key) ≠ { station := st, channel := c } := fun d mem same =>
      absent (by rwa [show c = d from (congrArg Key.channel same).symm])
    rw [List.foldl_cons, ih once']
    by_cases queued : (readSummary body c).queued = true
    · have stays : staysQueued st body (c :: cs) = staysQueued st body cs := funext fun k => by
        rw [staysQueued_cons, queued]
        simp
      rw [stays]
      by_cases present : ({ station := st, channel := c } : Key) ∈ q
      · have step : restateQueue st body q c = q := by simp only [restateQueue, if_pos queued, if_pos present]
        rw [step]
        refine congrArg (List.filter (staysQueued st body cs) q ++ ·) ?_
        unfold joinsQueue
        rw [List.filter_cons_of_neg (by simp [present])]
      · have step : restateQueue st body q c = q ++ [{ station := st, channel := c }] := by
          simp only [restateQueue, if_pos queued, if_neg present]
        have survives : staysQueued st body cs { station := st, channel := c } = true := by simp [staysQueued, absent]
        have joins : joinsQueue st body (c :: cs) q = { station := st, channel := c } :: joinsQueue st body cs q := by
          unfold joinsQueue
          rw [List.filter_cons_of_pos (by simp [queued, present])]
          rfl
        rw [step, others _ fun d mem => by simp [differs d mem], List.filter_append, List.filter_cons_of_pos survives, joins, List.append_assoc]
        rfl
    · have step : restateQueue st body q c = q.filter fun k => k ≠ { station := st, channel := c } := by
        simp only [restateQueue, if_neg queued]
      have stays : (q.filter fun k => k ≠ { station := st, channel := c }).filter (staysQueued st body cs) =
          q.filter (staysQueued st body (c :: cs)) := by
        rw [List.filter_filter]
        refine List.filter_congr fun k _ => ?_
        rw [staysQueued_cons]
        simp [queued]
      have joins : joinsQueue st body (c :: cs) q = joinsQueue st body cs q := by
        unfold joinsQueue
        rw [List.filter_cons_of_neg (by simp [queued])]
      rw [step, others _ fun d mem => by simp [differs d mem], stays, joins]

/-- A restated channel's key is queued where its indication is set. -/
theorem mem_restateQueue_foldl {cs : List Channel} (once : cs.Nodup) (q : List Key) {c : Channel} (mem : c ∈ cs) :
    ({ station := st, channel := c } : Key) ∈ cs.foldl (restateQueue st body) q ↔ (readSummary body c).queued = true := by
  rw [restateQueue_foldl st body once, List.mem_append, List.mem_filter, joinsQueue, List.mem_map]
  constructor
  · rintro (⟨-, stays⟩ | ⟨d, found, same⟩)
    · simpa [staysQueued, mem] using stays
    · have channel : d = c := congrArg Key.channel same
      subst channel
      exact (of_decide_eq_true (List.mem_filter.mp found).2).1
  · intro queued
    by_cases present : ({ station := st, channel := c } : Key) ∈ q
    · exact .inl ⟨present, by simp [staysQueued, queued]⟩
    · exact .inr ⟨c, List.mem_filter.mpr ⟨mem, by simp [queued, present]⟩, rfl⟩

theorem mem_restateQueue_foldl_other {cs : List Channel} (once : cs.Nodup) (q : List Key) {k : Key} (other : k.station ≠ st) :
    k ∈ cs.foldl (restateQueue st body) q ↔ k ∈ q := by
  rw [restateQueue_foldl st body once, List.mem_append, List.mem_filter, joinsQueue, List.mem_map]
  constructor
  · rintro (⟨here, -⟩ | ⟨d, -, same⟩)
    · exact here
    · exact absurd (congrArg Key.station same).symm other
  · exact fun here => .inl ⟨here, by simp [staysQueued, other]⟩

/-! ## The dwell of the head (R100) -/

/-- The dwell where the head of the queue changes or stays. -/
def dwellAfter (old new : List Key) (dwell : Nat) : Nat := if new.head? = old.head? then dwell else 0

/-- A head that a restatement replaces does not come back. -/
theorem restateQueue_head {c : Channel} {cs : List Channel} (once : (c :: cs).Nodup) (q : List Key)
    (changes : (restateQueue st body q c).head? ≠ q.head?) : ((c :: cs).foldl (restateQueue st body) q).head? ≠ q.head? := by
  have finds := mem_restateQueue_foldl st body once q (List.mem_cons_self (a := c) (l := cs))
  by_cases queued : (readSummary body c).queued = true
  · have empty : q = [] := by
      by_contra some
      obtain ⟨x, xs, rfl⟩ := List.exists_cons_of_ne_nil some
      refine changes ?_
      simp only [restateQueue, if_pos queued]
      split <;> rfl
    subst empty
    intro same
    have here := finds.mpr queued
    rw [List.head?_eq_none_iff.mp same] at here
    cases here
  · intro same
    have head : q.head? = some { station := st, channel := c } := by
      cases q with
      | nil => exact absurd (by simp [restateQueue, queued]) changes
      | cons x xs =>
        by_contra other
        have differs : x ≠ { station := st, channel := c } := fun h => other (congrArg some h)
        exact changes (by simp [restateQueue, queued, differs])
    exact queued (finds.mp (List.mem_of_mem_head? (same.trans head)))

/-- A head that stays keeps its dwell over a restatement, and a new one begins at 0. -/
theorem restateQueue_dwell {f : List Key × Nat → Channel → List Key × Nat}
    (step : ∀ x c, f x c = (restateQueue st body x.1 c, dwellAfter x.1 (restateQueue st body x.1 c) x.2)) {cs : List Channel} (once : cs.Nodup)
    (x : List Key × Nat) : cs.foldl f x = (cs.foldl (restateQueue st body) x.1, dwellAfter x.1 (cs.foldl (restateQueue st body) x.1) x.2) := by
  induction cs generalizing x with
  | nil => simp [dwellAfter]
  | cons c cs ih =>
    rw [List.foldl_cons, ih (List.nodup_cons.mp once).2, step]
    refine Prod.ext rfl ?_
    by_cases stays : (restateQueue st body x.1 c).head? = x.1.head?
    · have same : dwellAfter x.1 (restateQueue st body x.1 c) x.2 = x.2 := if_pos stays
      dsimp only
      rw [same]
      unfold dwellAfter
      rw [stays]
      rfl
    · have gone := restateQueue_head st body once x.1 stays
      simp only [dwellAfter, if_neg stays, ite_self]
      rw [if_neg gone]

end

end Sys2Proof.Machine
end

section
/-!
PROOF. What the restatement of a PRESENCE leaves (R52, R98), and the adoption of the phase (R16, R17).
-/

namespace Sys2Proof.Machine

/-! ## The fields of a PRESENCE (R151, R152) -/

theorem bitOf_eq (b : Byte) (i : Nat) : bitOf b i = decide (b.toNat / 2 ^ i % 2 = 1) := Nat.testBit_eq_decide_div_mod_eq

theorem readSummary_eq (body : List Byte) (c : Channel) : readSummary body c =
    { kindField := (body.getD (4 + 3 * c.val) 0).toNat % 4
      claimed := decide ((body.getD (4 + 3 * c.val) 0).toNat / 4 % 2 = 1)
      cls := (body.getD (4 + 3 * c.val) 0).toNat / 16 % 4
      queued := decide ((body.getD (4 + 3 * c.val) 0).toNat / 64 % 2 = 1)
      current := (body.getD (5 + 3 * c.val) 0).toNat, slots := (body.getD (6 + 3 * c.val) 0).toNat } := by
  unfold readSummary
  dsimp only
  rw [bitOf_eq, bitOf_eq]
  rfl

/-! ## The claim table -/

section
variable (st : Fin 8) (body : List Byte)

theorem restateClaim_plan (s : State) (c : Channel) : (restateClaim st body s c).plan = { s.plan with
    table := restateEntry s.burst { station := st, channel := c } (readSummary body c) s.plan.table } := by
  unfold restateClaim
  dsimp only
  split
  · simp [setTable]
  · rfl

theorem restateClaims_plan (cs : List Channel) (s : State) : (cs.foldl (restateClaim st body) s).plan =
    { s.plan with table := restateTable s.burst st body cs s.plan.table } ∧ (cs.foldl (restateClaim st body) s).arbiter = s.arbiter := by
  induction cs generalizing s with
  | nil => exact ⟨rfl, rfl⟩
  | cons c cs ih =>
    have burst : (restateClaim st body s c).burst = s.burst := by simp [State.burst]
    obtain ⟨plan, arbiter⟩ := ih (restateClaim st body s c)
    rw [List.foldl_cons, plan, arbiter, burst, restateClaim_plan]
    exact ⟨rfl, by simp⟩

/-! ## The queue and its dwell -/

theorem dropKey_dwell (k : Key) (s : State) : (dropKey k s).arbiter.dwell = (removeKey k s).arbiter.dwell := by
  unfold dropKey
  split <;> simp

theorem restateSpark_queue (s : State) (c : Channel) :
    (restateSpark st body s c).arbiter.queue = restateQueue st body s.arbiter.queue c ∧
    (restateSpark st body s c).arbiter.dwell = dwellAfter s.arbiter.queue (restateQueue st body s.arbiter.queue c) s.arbiter.dwell := by
  unfold restateSpark restateQueue dwellAfter
  dsimp only
  by_cases queued : (readSummary body c).queued = true
  · rw [if_pos queued, if_pos queued]
    by_cases present : ({ station := st, channel := c } : Key) ∈ s.arbiter.queue
    · rw [if_pos present, if_pos present, if_pos rfl]
      exact ⟨rfl, rfl⟩
    · have joined := appendKey_arbiter { station := st, channel := c } s
      rw [if_neg present] at joined
      have dwell : (if s.arbiter.queue = [] then 0 else s.arbiter.dwell) =
          if (s.arbiter.queue ++ [({ station := st, channel := c } : Key)]).head? = s.arbiter.queue.head? then s.arbiter.dwell else 0 := by
        cases queue : s.arbiter.queue <;> simp
      rw [if_neg present, if_neg present]
      by_cases own : st = s.loader.options.address
      · rw [if_pos own, (standingFree_queue c _).1, (standingFree_queue c _).2, joined]
        exact ⟨rfl, dwell⟩
      · rw [if_neg own, joined]
        exact ⟨rfl, dwell⟩
  · rw [if_neg queued, if_neg queued, dropKey_queue, dropKey_dwell]
    refine ⟨rfl, ?_⟩
    obtain ⟨head, other⟩ := removeKey_dwell { station := st, channel := c } s
    by_cases first : s.arbiter.queue.head? = some { station := st, channel := c }
    · rw [head first, if_neg]
      intro same
      simpa using (List.mem_filter.mp (List.mem_of_mem_head? (same.trans first))).2
    · rw [other first, if_pos]
      cases queue : s.arbiter.queue with
      | nil => rfl
      | cons x xs =>
        have differs : x ≠ { station := st, channel := c } := fun h => first (by rw [queue, h]; rfl)
        simp [differs]

/-- Queue and dwell after the restatement of some channels. -/
theorem restateSparks_queue {cs : List Channel} (once : cs.Nodup) (s : State) :
    (cs.foldl (restateSpark st body) s).arbiter.queue = cs.foldl (restateQueue st body) s.arbiter.queue ∧
    (cs.foldl (restateSpark st body) s).arbiter.dwell =
      dwellAfter s.arbiter.queue (cs.foldl (restateQueue st body) s.arbiter.queue) s.arbiter.dwell := by
  have pairs := List.foldl_hom (fun u : State => (u.arbiter.queue, u.arbiter.dwell)) (g₁ := restateSpark st body)
    (g₂ := fun x c => (restateQueue st body x.1 c, dwellAfter x.1 (restateQueue st body x.1 c) x.2)) (l := cs) (init := s)
    fun u c => (Prod.ext (restateSpark_queue st body u c).1 (restateSpark_queue st body u c).2).symm
  have folded := (restateQueue_dwell st body (fun x c => rfl) once (s.arbiter.queue, s.arbiter.dwell)).symm.trans pairs
  exact ⟨(congrArg Prod.fst folded).symm, (congrArg Prod.snd folded).symm⟩

theorem restateSparks_plan (cs : List Channel) (s : State) : (cs.foldl (restateSpark st body) s).plan = s.plan := by
  induction cs generalizing s with
  | nil => rfl
  | cons c cs ih => exact (ih _).trans (by simp)

theorem restateAll_plan (s : State) : (restateAll st body s).plan =
    { s.plan with table := restateTable s.burst st body allChannels s.plan.table } :=
  (restateSparks_plan st body _ _).trans (restateClaims_plan st body _ _).1

theorem allChannels_nodup : allChannels.Nodup := by decide

theorem mem_allChannels (c : Channel) : c ∈ allChannels := by
  revert c
  decide

theorem restateAll_queue (s : State) :
    (restateAll st body s).arbiter.queue = allChannels.foldl (restateQueue st body) s.arbiter.queue ∧
    (restateAll st body s).arbiter.dwell =
      dwellAfter s.arbiter.queue (allChannels.foldl (restateQueue st body) s.arbiter.queue) s.arbiter.dwell := by
  have same := (restateClaims_plan st body allChannels s).2
  have sparks := restateSparks_queue st body allChannels_nodup (allChannels.foldl (restateClaim st body) s)
  rwa [same] at sparks

/-- Claim entries and spark keys agree with a PRESENCE of station `st`; those of other stations are as before. -/
def restatesAll (s t : State) : Prop :=
  (∀ q : Key, q.station ≠ st →
    findEntry q t.plan.table = findEntry q s.plan.table ∧ (q ∈ t.arbiter.queue ↔ q ∈ s.arbiter.queue)) ∧
  t.arbiter.queue =
    s.arbiter.queue.filter (fun q => q.station ≠ st ∨ (readSummary body q.channel).queued = true) ++
    (allChannels.filter fun c => (readSummary body c).queued = true ∧ { station := st, channel := c } ∉ s.arbiter.queue).map
      (fun c => { station := st, channel := c }) ∧
  t.arbiter.dwell = (if t.arbiter.queue.head? = s.arbiter.queue.head? then s.arbiter.dwell else 0) ∧
  ∀ c : Channel,
    ({ station := st, channel := c } ∈ t.arbiter.queue ↔ (readSummary body c).queued = true) ∧
    findEntry { station := st, channel := c } t.plan.table =
      restatedEntry s.burst { station := st, channel := c } (readSummary body c) (findEntry { station := st, channel := c } s.plan.table)

/-- What a restatement makes of the table, the queue and the dwell. -/
theorem restatesAll_of_restateAll {s u t : State} (table : u.plan.table = s.plan.table) (arbiter : u.arbiter = s.arbiter)
    (burst : u.burst = s.burst) (table' : t.plan.table = (restateAll st body u).plan.table)
    (arbiter' : t.arbiter = (restateAll st body u).arbiter) : restatesAll st body s t := by
  obtain ⟨queue, dwell⟩ := restateAll_queue st body u
  rw [← arbiter', arbiter] at queue dwell
  rw [restateAll_plan] at table'
  dsimp only at table'
  rw [table, burst] at table'
  have stays : s.arbiter.queue.filter (staysQueued st body allChannels) =
      s.arbiter.queue.filter fun q => q.station ≠ st ∨ (readSummary body q.channel).queued = true := by
    refine List.filter_congr fun k _ => ?_
    by_cases station : k.station = st <;> simp [staysQueued, station, mem_allChannels]
  refine ⟨fun q other => ⟨?_, ?_⟩, ?_, ?_, fun c => ⟨?_, ?_⟩⟩
  · rw [table']
    exact findEntry_restateTable_other _ st body (.inl other) _
  · rw [queue]
    exact mem_restateQueue_foldl_other st body allChannels_nodup _ other
  · rw [queue, restateQueue_foldl st body allChannels_nodup, stays]
    rfl
  · rw [dwell, ← queue]
    rfl
  · rw [queue]
    exact mem_restateQueue_foldl st body allChannels_nodup _ (mem_allChannels c)
  · rw [table']
    exact findEntry_restateTable_own _ st body (mem_allChannels c) allChannels_nodup _

end

end Sys2Proof.Machine
end

section
/-!
PROOF. A PRESENCE from another node: the phase adopted (R16, R17), the restatement that touches nothing else (R52, R98).
-/

namespace Sys2Proof.Machine

/-! ## The adoption of the phase -/

/-- The shift is the difference of the phases modulo B. -/
theorem phaseShift_eq {b : Nat} (pos : 0 < b) (carried opener : Nat) :
    (phaseShift b carried opener : Int) = ((carried : Int) - opener) % b := by
  have below : opener % b < b := Nat.mod_lt _ pos
  unfold phaseShift
  rw [Int.natCast_mod, Int.ofNat_sub (by omega)]
  push_cast
  rw [Int.sub_emod, Int.add_emod_right, Int.emod_emod_of_dvd _ (dvd_refl _), Int.emod_emod_of_dvd _ (dvd_refl _), ← Int.sub_emod]

theorem adoptPhase_of_same {x y : Nat} {s : State} (same : phaseShift s.burst x y = 0) : adoptPhase x y s = s := if_pos same

theorem adoptPhase_of_shift {x y : Nat} {s : State} (differs : phaseShift s.burst x y ≠ 0) : adoptPhase x y s =
    countPhaseAdjust (clearMaps (s.setBase { s.base with phase := (s.base.phase + phaseShift s.burst x y) % s.burst })) := if_neg differs

theorem clearMaps_elements (s : State) (c : Channel) : (clearMaps s).elements[c] = { s.elements[c] with relay := false } := by
  simp [clearMaps, openRelays]

/-! ## A restatement of another station -/

/-- Only the claim table, and the spark queue with its dwell, may differ. -/
def onlyClaimsAndKeys (s t : State) : Prop :=
  ∃ plan queue dwell, t = { s with plan := plan, arbiter := { s.arbiter with queue := queue, dwell := dwell } }

theorem onlyClaimsAndKeys.trans {s t u : State} (first : onlyClaimsAndKeys s t) (second : onlyClaimsAndKeys t u) : onlyClaimsAndKeys s u := by
  obtain ⟨p, q, d, rfl⟩ := first
  obtain ⟨p', q', d', rfl⟩ := second
  exact ⟨p', q', d', rfl⟩

section
variable {st : Fin 8} {body : List Byte}

theorem restateClaim_foreign {s : State} (foreign : st ≠ s.loader.options.address) (c : Channel) :
    onlyClaimsAndKeys s (restateClaim st body s c) := by
  unfold restateClaim
  dsimp only
  rw [if_neg fun h => foreign h.1]
  exact ⟨_, s.arbiter.queue, s.arbiter.dwell, rfl⟩

theorem restateSpark_foreign {s : State} (foreign : st ≠ s.loader.options.address) (c : Channel) :
    onlyClaimsAndKeys s (restateSpark st body s c) := by
  unfold restateSpark
  dsimp only
  split
  · split
    · exact ⟨s.plan, s.arbiter.queue, s.arbiter.dwell, rfl⟩
    · have joined := appendKey_arbiter { station := st, channel := c } s
      refine ⟨s.plan, (appendKey { station := st, channel := c } s).arbiter.queue,
        (appendKey { station := st, channel := c } s).arbiter.dwell, ?_⟩
      rw [State.eq_iff, joined]
      simp
  · have left := removeKey_foreign (k := { station := st, channel := c }) (s := s) foreign
    rw [dropKey, if_neg fun h => foreign h.2]
    refine ⟨s.plan, (removeKey { station := st, channel := c } s).arbiter.queue, (removeKey { station := st, channel := c } s).arbiter.dwell, ?_⟩
    rw [State.eq_iff]
    refine ⟨by simp, by simp, by simp, by simp, by simp, by simp, ?_, by simp, by simp, by simp, by simp, by simp, by simp, by simp, by simp, by simp⟩
    exact congrArg (fun o => { (removeKey { station := st, channel := c } s).arbiter with freeOutstanding := o }) left

theorem restateAll_foreign {s : State} (foreign : st ≠ s.loader.options.address) : onlyClaimsAndKeys s (restateAll st body s) := by
  have step : ∀ (f : State → Channel → State), (∀ u c, st ≠ u.loader.options.address → onlyClaimsAndKeys u (f u c)) →
      ∀ u : State, st ≠ u.loader.options.address → onlyClaimsAndKeys u (allChannels.foldl f u) := fun f one u away => by
    refine foldl_channels_keeps (P := fun v => onlyClaimsAndKeys u v) f (fun v c kept => ?_) u ⟨u.plan, u.arbiter.queue, u.arbiter.dwell, rfl⟩
    obtain ⟨p, q, d, same⟩ := id kept
    exact kept.trans (one v c (by rw [same]; exact away))
  have claims := step (restateClaim st body) (fun u c away => restateClaim_foreign away c) s foreign
  obtain ⟨p, q, d, same⟩ := id claims
  exact claims.trans (step (restateSpark st body) (fun u c away => restateSpark_foreign away c) _ (by rw [same]; exact foreign))

end

/-! ## The presence -/

/-- Before the restatement: the record, and the phase adopted where it comes from the phase source. -/
def adopted (f : RxFrame) (s : State) : State :=
  if (withRecord f s).peers.phaseSource = some f.source then adoptPhase (presencePhase f.body) f.openerPhase (withRecord f s)
  else withRecord f s

section
variable {f : RxFrame} {s : State}

theorem adopted_of_same (same : (withRecord f s).peers.phaseSource ≠ some f.source ∨
    phaseShift s.burst (presencePhase f.body) f.openerPhase = 0) : adopted f s = withRecord f s := by
  unfold adopted
  split
  next source => exact adoptPhase_of_same (same.resolve_left (not_not.mpr source))
  next => rfl

theorem adopted_of_shift (source : (withRecord f s).peers.phaseSource = some f.source)
    (differs : phaseShift s.burst (presencePhase f.body) f.openerPhase ≠ 0) : adopted f s = countPhaseAdjust (clearMaps
      ((withRecord f s).setBase { s.base with
        phase := (s.base.phase + phaseShift s.burst (presencePhase f.body) f.openerPhase) % s.burst })) :=
  (if_pos source).trans (adoptPhase_of_shift (s := withRecord f s) differs)

/-- No adoption shows in a channel's report. -/
theorem adopted_kept (f : RxFrame) (s : State) : (adopted f s).plan.table = s.plan.table ∧ (adopted f s).arbiter = s.arbiter ∧
    (adopted f s).loader = s.loader ∧ (adopted f s).peers = (withRecord f s).peers ∧ ∀ c, reportedOf s c = reportedOf (adopted f s) c := by
  by_cases same : (withRecord f s).peers.phaseSource ≠ some f.source ∨ phaseShift s.burst (presencePhase f.body) f.openerPhase = 0
  · rw [adopted_of_same same]
    exact ⟨rfl, rfl, rfl, rfl, fun _ => rfl⟩
  · obtain ⟨source, differs⟩ := not_or.mp same
    rw [adopted_of_shift (not_not.mp source) differs]
    refine ⟨rfl, rfl, rfl, rfl, fun c => (reportedOf_eq_iff (by rfl) c).mpr ⟨rfl, rfl, rfl, rfl, rfl, fun _ => ?_, fun _ => ⟨rfl, rfl⟩⟩⟩
    exact (congrArg ElementDriver.heat (clearMaps_elements (withRecord f s) c) :)

end

/-- A PRESENCE from another node, whole. -/
theorem exec_presence_of_node {f : RxFrame} {rest : List RxFrame} {st : Fin 8} {s : State} (delivers : s.delivers .presence f rest)
    (station : st.val = f.source.val) (other : s.isOwn f.source = false) :
    exec .presence s = .next (restateAll st f.body (adopted f (s.popped rest))) ∧
    onlyClaimsAndKeys (adopted f (s.popped rest)) (restateAll st f.body (adopted f (s.popped rest))) := by
  obtain ⟨-, -, loader, -, reports⟩ := adopted_kept f (s.popped rest)
  have foreign : st ≠ (adopted f (s.popped rest)).loader.options.address := by
    rw [loader]
    rintro rfl
    exact Bool.false_ne_true (other.symm.trans ((isOwn_iff s f.source).mpr station.symm))
  have only := restateAll_foreign (body := f.body) foreign
  have quiet : noteReports (s.popped rest) (restateAll st f.body (adopted f (s.popped rest))) = restateAll st f.body (adopted f (s.popped rest)) := by
    obtain ⟨p, q, d, same⟩ := only
    refine noteReports_of_same fun c => ?_
    rw [same]
    exact reports c
  refine ⟨?_, only⟩
  rw [exec_presence delivers, takePresence_of_node (by exact other) station]
  exact congrArg Host.Outcome.next quiet

end Sys2Proof.Machine
end

section
/-!
PROOF. The own echo of a PRESENCE (R53, R85, R98, R111, R112): what the restatement does on one channel.
-/

namespace Sys2Proof.Machine

/-! ## One channel of the four -/

/-- In a fold over the channels, what is said of channel `c` depends on the step of `c` alone. -/
theorem foldl_channels_step {Same : State → State → Prop} {f : State → Channel → State} (c : Channel) (refl : ∀ s, Same s s)
    (trans : ∀ s t u, Same s t → Same t u → Same s u) (others : ∀ d u, d ≠ c → Same u (f u d)) (s : State) :
    ∃ u, Same s u ∧ Same (f u c) (allChannels.foldl f s) := by
  have skip : ∀ (d : Channel) (u v : State), d ≠ c → Same u v → Same u (f v d) := fun d u v other h => trans u v _ h (others d v other)
  have once : ∀ d : Channel, d = 0 ∨ d = 1 ∨ d = 2 ∨ d = 3 := by decide
  simp only [allChannels, List.foldl_cons, List.foldl_nil]
  obtain rfl | rfl | rfl | rfl := once c
  · exact ⟨s, refl s, skip 3 _ _ (by decide) (skip 2 _ _ (by decide) (skip 1 _ _ (by decide) (refl _)))⟩
  · exact ⟨_, skip 0 _ _ (by decide) (refl s), skip 3 _ _ (by decide) (skip 2 _ _ (by decide) (refl _))⟩
  · exact ⟨_, skip 1 _ _ (by decide) (skip 0 _ _ (by decide) (refl s)), skip 3 _ _ (by decide) (refl _)⟩
  · exact ⟨_, skip 2 _ _ (by decide) (skip 1 _ _ (by decide) (skip 0 _ _ (by decide) (refl s))), refl _⟩

section
variable (st : Fin 8) (body : List Byte)

/-! ## The own claims (R52, R85) -/

/-- Two nodes agree on what the restatement of channel `c`'s claim reads and writes. -/
structure sameClaim (c : Channel) (s t : State) : Prop where
  entry : findEntry { station := st, channel := c } t.plan.table = findEntry { station := st, channel := c } s.plan.table
  driver : t.elements[c] = s.elements[c]
  release : flagOf t.tx (.ofChannel .release c) = flagOf s.tx (.ofChannel .release c)
  claim : flagOf t.tx (.ofChannel .claim c) = flagOf s.tx (.ofChannel .claim c)
  loader : t.loader = s.loader

theorem restateClaim_other {c d : Channel} (s : State) (other : d ≠ c) : sameClaim st c s (restateClaim st body s d) := by
  have only := restateClaim_only st body s d
  refine ⟨?_, by simp, only.flag ?_, only.flag ?_, by simp⟩
  · rw [restateClaim_plan]
    exact findEntry_restateEntry_other _ _ _ fun same => other (congrArg Key.channel same).symm
  · simp [claimFlags, other.symm]
  · simp [claimFlags, other.symm]

/-- An entry that is there, and differs from the old one, of a channel that wants no share and whose release is not asked for. -/
def releasesEntry (c : Channel) (s : State) (new : Option ClaimEntry) : Prop :=
  s.kind c = .element ∧ asksClaim s.elements[c].heat = false ∧ s.asked (.ofChannel .release c) = false ∧ new ≠ none ∧
  new ≠ findEntry { station := st, channel := c } s.plan.table

theorem restateClaim_own {s : State} (own : st = s.loader.options.address) (c : Channel) :
    let new := findEntry { station := st, channel := c } (restateClaim st body s c).plan.table
    (releasesEntry st c s new →
      flagOf (restateClaim st body s c).tx (.ofChannel .release c) = raised (flagOf s.tx (.ofChannel .release c)) ∧
      flagOf (restateClaim st body s c).tx (.ofChannel .claim c) = lowered (flagOf s.tx (.ofChannel .claim c))) ∧
    (¬ releasesEntry st c s new → (restateClaim st body s c).tx = s.tx) := by
  intro new
  have key : s.ownKey c = { station := st, channel := c } := by rw [own, State.ownKey]
  have table : new = findEntry { station := st, channel := c }
      (restateEntry s.burst { station := st, channel := c } (readSummary body c) s.plan.table) := by
    simp only [new, restateClaim_plan]
  have standing : ∀ u : State, u = setTable (restateEntry s.burst { station := st, channel := c } (readSummary body c) s.plan.table) s →
      (new ≠ findEntry { station := st, channel := c } s.plan.table → restateClaim st body s c = standingRelease c u) ∧
      (new = findEntry { station := st, channel := c } s.plan.table → restateClaim st body s c = u) := by
    rintro u rfl
    unfold restateClaim
    dsimp only
    rw [table]
    exact ⟨fun changed => if_pos ⟨own, changed⟩, fun same => if_neg fun h => h.2 same⟩
  obtain ⟨changes, keeps⟩ := standing _ rfl
  refine ⟨fun ⟨element, idle, unasked, present, changed⟩ => ?_, fun none => ?_⟩
  · have isSome : (findEntry (s.ownKey c) (restateEntry s.burst { station := st, channel := c } (readSummary body c) s.plan.table)).isSome = true := by
      rw [key, ← table]
      exact Option.isSome_iff_ne_none.mpr present
    have raises : standingRelease c (setTable (restateEntry s.burst { station := st, channel := c } (readSummary body c) s.plan.table) s) =
        raiseRelease c (setTable (restateEntry s.burst { station := st, channel := c } (readSummary body c) s.plan.table) s) :=
      if_pos ⟨element, isSome, idle, unasked⟩
    rw [changes changed, raises, flagOf_raiseRelease, flagOf_raiseRelease, if_neg (by simp), if_pos rfl, if_pos rfl]
    exact ⟨rfl, rfl⟩
  · by_cases changed : new = findEntry { station := st, channel := c } s.plan.table
    · rw [keeps changed]
      rfl
    · have idle : standingRelease c (setTable (restateEntry s.burst { station := st, channel := c } (readSummary body c) s.plan.table) s) =
          setTable (restateEntry s.burst { station := st, channel := c } (readSummary body c) s.plan.table) s := by
        refine if_neg fun ⟨element, isSome, heat, unasked⟩ => none ⟨element, heat, unasked, ?_, changed⟩
        have entry : (findEntry (s.ownKey c) (restateEntry s.burst { station := st, channel := c } (readSummary body c) s.plan.table)).isSome =
            true := isSome
        rw [key, ← table] at entry
        exact Option.isSome_iff_ne_none.mp entry
      rw [changes changed, idle]
      rfl

/-- The claims of the own echo, channel by channel. -/
theorem restateClaims_own {s : State} (own : st = s.loader.options.address) (c : Channel) :
    let t := allChannels.foldl (restateClaim st body) s
    let new := findEntry { station := st, channel := c } t.plan.table
    (releasesEntry st c s new →
      flagOf t.tx (.ofChannel .release c) = raised (flagOf s.tx (.ofChannel .release c)) ∧
      flagOf t.tx (.ofChannel .claim c) = lowered (flagOf s.tx (.ofChannel .claim c))) ∧
    (¬ releasesEntry st c s new →
      flagOf t.tx (.ofChannel .release c) = flagOf s.tx (.ofChannel .release c) ∧
      flagOf t.tx (.ofChannel .claim c) = flagOf s.tx (.ofChannel .claim c)) := by
  intro t new
  obtain ⟨u, before, after⟩ := foldl_channels_step (Same := sameClaim st c) (f := restateClaim st body) c (fun _ => ⟨rfl, rfl, rfl, rfl, rfl⟩)
    (fun _ _ _ h g => ⟨g.entry.trans h.entry, g.driver.trans h.driver, g.release.trans h.release, g.claim.trans h.claim, g.loader.trans h.loader⟩)
    (fun d u other => restateClaim_other st body u other) s
  obtain ⟨raises, keeps⟩ := restateClaim_own st body (s := u) (by rw [before.loader]; exact own) c
  have same : releasesEntry st c u (findEntry { station := st, channel := c } (restateClaim st body u c).plan.table) ↔ releasesEntry st c s new := by
    rw [← after.entry]
    unfold releasesEntry State.asked State.kind
    rw [before.loader, before.driver, before.release, before.entry]
  refine ⟨fun h => ?_, fun h => ?_⟩
  · obtain ⟨release, claim⟩ := raises (same.mpr h)
    exact ⟨after.release.trans (release.trans (by rw [before.release])), after.claim.trans (claim.trans (by rw [before.claim]))⟩
  · have tx := keeps (mt same.mp h)
    exact ⟨after.release.trans (by rw [tx, before.release]), after.claim.trans (by rw [tx, before.claim])⟩

end

end Sys2Proof.Machine
end

section
/-!
PROOF. The own echo of a PRESENCE (R53, R98, R111, R112): the spark keys of the node's own channels.
-/

namespace Sys2Proof.Machine

section
variable (st : Fin 8) (body : List Byte) (c : Channel)

/-- Two nodes agree on what the restatement of channel `c`'s spark key reads and writes. -/
structure sameSpark (s t : State) : Prop where
  program : t.programs[c] = s.programs[c]
  levels : t.handovers[c] = s.handovers[c]
  burner : t.gas[c] = s.gas[c]
  outstanding : t.arbiter.freeOutstanding[c] = s.arbiter.freeOutstanding[c]
  queued : { station := st, channel := c } ∈ t.arbiter.queue ↔ { station := st, channel := c } ∈ s.arbiter.queue
  spark : flagOf t.tx (.ofChannel .spark c) = flagOf s.tx (.ofChannel .spark c)
  free : flagOf t.tx (.ofChannel .sparkFree c) = flagOf s.tx (.ofChannel .sparkFree c)
  loader : t.loader = s.loader
  base : t.base = s.base

/-- The key of a GAS channel leaves the queue. -/
def losesKey (s : State) : Prop :=
  s.kind c = .gas ∧ { station := st, channel := c } ∈ s.arbiter.queue ∧ (readSummary body c).queued = false

/-- The key that joins the queue is one that its channel does not want. -/
def joinsUnwanted (s : State) : Prop :=
  s.kind c = .gas ∧ { station := st, channel := c } ∉ s.arbiter.queue ∧ (readSummary body c).queued = true ∧
  wantsSpark s.gas[c].heat = false ∧ s.asked (.ofChannel .sparkFree c) = false

/-- What the restatement of an own key leaves of its channel's burner, record and request for the spark (R111). -/
structure restatesBurner (s t : State) : Prop where
  falls : losesKey st body c s → s.gas[c].heat = .relightSpark → t.gas[c] = { s.gas[c] with heat := .relightWait, spark := false }
  fails : losesKey st body c s → s.gas[c].heat = .ignite →
    t.gas[c] = failedBurner s s.gas[c] ∧ t.programs[c] = failedProgram s s.gas[c] s.programs[c]
  keepsBurner : ¬ (losesKey st body c s ∧ (s.gas[c].heat = .relightSpark ∨ s.gas[c].heat = .ignite)) → t.gas[c] = s.gas[c]
  keepsProgram : ¬ (losesKey st body c s ∧ s.gas[c].heat = .ignite) → t.programs[c] = s.programs[c]
  levels : t.handovers[c] = handedOn s.programs[c] t.programs[c] s.handovers[c]
  asks : losesKey st body c s → s.gas[c].heat = .waitSpark ∨ s.gas[c].heat = .relightWait ∨ s.gas[c].heat = .relightSpark →
    flagOf t.tx (.ofChannel .spark c) = raised (flagOf s.tx (.ofChannel .spark c))
  keepsSpark : ¬ (losesKey st body c s ∧ (s.gas[c].heat = .waitSpark ∨ s.gas[c].heat = .relightWait ∨ s.gas[c].heat = .relightSpark)) →
    flagOf t.tx (.ofChannel .spark c) = flagOf s.tx (.ofChannel .spark c)

/-- What the restatement of an own key leaves of its channel (R97, R111, R112). -/
structure restatesSpark (s t : State) : Prop extends restatesBurner st body c s t where
  outstanding : { station := st, channel := c } ∈ s.arbiter.queue →
    t.arbiter.freeOutstanding[c] = (s.arbiter.freeOutstanding[c] && (readSummary body c).queued)
  frees : joinsUnwanted st body c s → flagOf t.tx (.ofChannel .sparkFree c) = raised (flagOf s.tx (.ofChannel .sparkFree c)) ∧
    t.arbiter.freeOutstanding[c] = true
  keepsFree : ¬ joinsUnwanted st body c s → flagOf t.tx (.ofChannel .sparkFree c) = flagOf s.tx (.ofChannel .sparkFree c) ∧
    ({ station := st, channel := c } ∉ s.arbiter.queue → t.arbiter.freeOutstanding[c] = s.arbiter.freeOutstanding[c])

variable {st body c}

theorem sameSpark.refl (s : State) : sameSpark st c s s := ⟨rfl, rfl, rfl, rfl, .rfl, rfl, rfl, rfl, rfl⟩

theorem sameSpark.trans {s t u : State} (h : sameSpark st c s t) (g : sameSpark st c t u) : sameSpark st c s u where
  program := g.program.trans h.program
  levels := g.levels.trans h.levels
  burner := g.burner.trans h.burner
  outstanding := g.outstanding.trans h.outstanding
  queued := g.queued.trans h.queued
  spark := g.spark.trans h.spark
  free := g.free.trans h.free
  loader := g.loader.trans h.loader
  base := g.base.trans h.base

theorem failed_congr {s t : State} (loader : t.loader = s.loader) (base : t.base = s.base) (g : GasSequencer) (p : Program) :
    failedBurner t g = failedBurner s g ∧ failedProgram t g p = failedProgram s g p := by
  unfold failedBurner failedProgram windowOf
  rw [loader, base]
  exact ⟨rfl, rfl⟩

theorem sameSpark.loses {s t : State} (h : sameSpark st c s t) : losesKey st body c t ↔ losesKey st body c s := by
  unfold losesKey State.kind
  rw [h.loader, h.queued]

theorem sameSpark.joins {s t : State} (h : sameSpark st c s t) : joinsUnwanted st body c t ↔ joinsUnwanted st body c s := by
  unfold joinsUnwanted State.kind State.asked
  rw [h.loader, h.queued, h.burner, h.free]

/-- What is said of a channel's restatement goes by that channel alone. -/
theorem restatesSpark.congr {s s' t t' : State} (before : sameSpark st c s s') (after : sameSpark st c t t')
    (h : restatesSpark st body c s' t) : restatesSpark st body c s t' := by
  obtain ⟨⟨falls, fails, keepsBurner, keepsProgram, levels, asks, keepsSpark⟩, outstanding, frees, keepsFree⟩ := h
  obtain ⟨burner, program⟩ := failed_congr before.loader before.base s.gas[c] s.programs[c]
  rw [before.loses, before.burner] at falls fails keepsBurner keepsProgram asks keepsSpark
  rw [before.joins] at frees keepsFree
  rw [before.program] at fails keepsProgram levels
  rw [before.levels] at levels
  rw [before.queued] at outstanding keepsFree
  rw [before.outstanding] at outstanding keepsFree
  rw [before.spark] at asks keepsSpark
  rw [before.free] at frees keepsFree
  rw [burner, program] at fails
  rw [← after.burner] at falls fails keepsBurner
  rw [← after.program] at fails keepsProgram levels
  rw [← after.levels] at levels
  rw [← after.outstanding] at outstanding frees keepsFree
  rw [← after.spark] at asks keepsSpark
  rw [← after.free] at frees keepsFree
  exact ⟨⟨falls, fails, keepsBurner, keepsProgram, levels, asks, keepsSpark⟩, outstanding, frees, keepsFree⟩

end

end Sys2Proof.Machine
end

section
/-!
PROOF. The own echo of a PRESENCE (R98, R111, R112): the restatement of one own key, in its four cases.
-/

namespace Sys2Proof.Machine

section
variable {st : Fin 8} {body : List Byte} {c : Channel} {s : State}

/-! ## The four cases -/

theorem restateSpark_of_absent (unqueued : (readSummary body c).queued = false) (absent : { station := st, channel := c } ∉ s.arbiter.queue) :
    restateSpark st body s c = s := by
  unfold restateSpark dropKey removeKey
  dsimp only
  rw [unqueued, if_neg (by decide), if_neg fun h => absent h.1, if_neg absent]

theorem restateSpark_of_present (queued : (readSummary body c).queued = true) (present : { station := st, channel := c } ∈ s.arbiter.queue) :
    restateSpark st body s c = s := by
  unfold restateSpark
  dsimp only
  rw [if_pos queued, if_pos present]

/-- The node with its spark queue, dwell and free-outstanding indications as given. -/
def withArbiter (a : SparkArbiter) (s : State) : State := { s with arbiter := a }

/-- A key that joins the queue. -/
theorem restateSpark_of_joins (own : st = s.loader.options.address) (queued : (readSummary body c).queued = true)
    (absent : { station := st, channel := c } ∉ s.arbiter.queue) : ∃ a, restateSpark st body s c = standingFree c (withArbiter a s) ∧
    a.freeOutstanding = s.arbiter.freeOutstanding ∧ { station := st, channel := c } ∈ a.queue := by
  have joined := appendKey_arbiter { station := st, channel := c } s
  rw [if_neg absent] at joined
  have whole : appendKey { station := st, channel := c } s = withArbiter (appendKey { station := st, channel := c } s).arbiter s := by
    rw [State.eq_iff]
    simp [withArbiter]
  refine ⟨(appendKey { station := st, channel := c } s).arbiter, ?_, by rw [joined], by rw [joined]; simp⟩
  unfold restateSpark
  dsimp only
  rw [if_pos queued, if_neg absent, if_pos own, ← whole]

/-- A key that leaves the queue. -/
theorem restateSpark_of_leaves (own : st = s.loader.options.address) (unqueued : (readSummary body c).queued = false)
    (present : { station := st, channel := c } ∈ s.arbiter.queue) : ∃ a, restateSpark st body s c = keyLost c (withArbiter a s) ∧
    a.freeOutstanding = s.arbiter.freeOutstanding.set c false ∧ { station := st, channel := c } ∉ a.queue := by
  have whole : removeKey { station := st, channel := c } s = withArbiter (removeKey { station := st, channel := c } s).arbiter s := by
    rw [State.eq_iff]
    simp [withArbiter]
  refine ⟨(removeKey { station := st, channel := c } s).arbiter, ?_, ?_, ?_⟩
  · unfold restateSpark dropKey
    dsimp only
    rw [unqueued, if_neg (by decide), if_pos ⟨present, own⟩, ← whole]
  · unfold removeKey
    dsimp only
    rw [if_pos present, if_pos own]
    rfl
  · simp

/-! ## What each case leaves -/

/-- A key that does not leave the queue touches no burner. -/
theorem restatesBurner_of_kept {t : State} (keeps : ¬ losesKey st body c s) (burner : t.gas[c] = s.gas[c])
    (program : t.programs[c] = s.programs[c]) (levels : t.handovers[c] = s.handovers[c])
    (spark : flagOf t.tx (.ofChannel .spark c) = flagOf s.tx (.ofChannel .spark c)) : restatesBurner st body c s t where
  falls h := absurd h keeps
  fails h := absurd h keeps
  keepsBurner _ := burner
  keepsProgram _ := program
  levels := by rw [levels, program, handedOn_self]
  asks h := absurd h keeps
  keepsSpark _ := spark

theorem restatesSpark_of_quiet (stays : { station := st, channel := c } ∈ s.arbiter.queue ↔ (readSummary body c).queued = true) :
    restatesSpark st body c s s := by
  have keeps : ¬ losesKey st body c s := fun ⟨_, present, unqueued⟩ => Bool.false_ne_true (unqueued.symm.trans (stays.mp present))
  have wanted : ¬ joinsUnwanted st body c s := fun ⟨_, absent, queued, _⟩ => absent (stays.mpr queued)
  exact ⟨restatesBurner_of_kept keeps rfl rfl rfl rfl, fun present => by rw [stays.mp present, Bool.and_true], fun h => absurd h wanted,
    fun _ => ⟨rfl, fun _ => rfl⟩⟩

theorem restatesSpark_of_joins {a : SparkArbiter} (own : st = s.loader.options.address) (queued : (readSummary body c).queued = true)
    (absent : { station := st, channel := c } ∉ s.arbiter.queue) (outstanding : a.freeOutstanding = s.arbiter.freeOutstanding)
    (joined : { station := st, channel := c } ∈ a.queue) : restatesSpark st body c s (standingFree c (withArbiter a s)) := by
  have keeps : ¬ losesKey st body c s := fun h => absent h.2.1
  have present : keyQueued c (withArbiter a s) = true := by
    rw [keyQueued_iff, State.ownKey, show (withArbiter a s).loader = s.loader from rfl, ← own]
    exact joined
  by_cases wanted : joinsUnwanted st body c s
  · obtain ⟨gas, -, -, unwanted, unasked⟩ := id wanted
    have raises : standingFree c (withArbiter a s) = raiseSparkFree c (withArbiter a s) :=
      if_pos ⟨gas, present, unwanted, unasked⟩
    have standing : (raiseSparkFree c (withArbiter a s)).arbiter.freeOutstanding[c] = true := by
      rw [raiseSparkFree_arbiter]
      exact getElem_set_same _ _ c
    rw [raises]
    exact ⟨restatesBurner_of_kept keeps rfl rfl rfl ((flagOf_raiseSparkFree _ _ _).trans (if_neg (by simp))), fun here => absurd here absent,
      fun _ => ⟨(flagOf_raiseSparkFree _ _ _).trans (if_pos rfl), standing⟩, fun h => absurd wanted h⟩
  · have idle : standingFree c (withArbiter a s) = withArbiter a s :=
      if_neg fun ⟨gas, _, unwanted, unasked⟩ => wanted ⟨gas, absent, queued, unwanted, unasked⟩
    rw [idle]
    exact ⟨restatesBurner_of_kept keeps rfl rfl rfl rfl, fun here => absurd here absent, fun h => absurd h wanted,
      fun _ => ⟨rfl, fun _ => congrArg (fun o : Vector Bool 4 => o[c]) outstanding⟩⟩

/-! ## A key that leaves (R111) -/

/-- The loss of the key acts on the burner by its heat state, and asks for no spark-free. -/
theorem restatesBurner_keyLost {a : SparkArbiter} (loses : s.kind c = .gas → losesKey st body c s)
    (absent : (withArbiter a s).ownKey c ∉ a.queue) : restatesBurner st body c s (keyLost c (withArbiter a s)) ∧
    flagOf (keyLost c (withArbiter a s)).tx (.ofChannel .sparkFree c) = flagOf s.tx (.ofChannel .sparkFree c) := by
  have others : ∀ q : Request, q ≠ .ofChannel .spark c → ∀ u : State, u.tx = s.tx → flagOf (raiseSpark c u).tx q = flagOf s.tx q :=
    fun q other u tx => by rw [flagOf_raiseSpark, if_neg other, tx]
  by_cases gas : s.kind c = .gas
  case neg =>
    have keeps : ¬ losesKey st body c s := fun h => gas h.1
    rw [keyLost_of_idle (by exact .inl gas)]
    exact ⟨restatesBurner_of_kept keeps rfl rfl rfl rfl, rfl⟩
  have lost := loses gas
  cases heat : s.gas[c].heat
  case ignite =>
    rw [keyLost_of_ignite (by exact gas) (by exact heat) (by exact absent)]
    refine ⟨⟨fun _ h => absurd (heat.symm.trans h) (by decide), fun _ _ => ⟨?_, ?_⟩, fun h => absurd ⟨lost, .inr heat⟩ h,
      fun h => absurd ⟨lost, heat⟩ h, ?_, fun _ h => absurd h (by rw [heat]; decide), fun _ => rfl⟩, rfl⟩
    · exact getElem_set_same s.gas _ c
    · exact getElem_set_same s.programs _ c
    · dsimp only
      rw [getElem_set_same, getElem_set_same]
      rfl
  case relightSpark =>
    rw [keyLost_of_relightSpark (by exact gas) (by exact heat)]
    refine ⟨⟨fun _ _ => ?_, fun _ h => absurd (heat.symm.trans h) (by decide), fun h => absurd ⟨lost, .inl heat⟩ h, fun _ => rfl,
      (handedOn_self _ _).symm, fun _ _ => ?_, fun h => absurd ⟨lost, .inr (.inr heat)⟩ h⟩, others _ (by simp) _ rfl⟩
    · exact getElem_set_same s.gas _ c
    · exact (flagOf_raiseSpark _ _ _).trans (if_pos rfl)
  case waitSpark =>
    rw [keyLost_of_waiting (by exact gas) (by exact .inl heat)]
    exact ⟨⟨fun _ h => absurd (heat.symm.trans h) (by decide), fun _ h => absurd (heat.symm.trans h) (by decide), fun _ => rfl, fun _ => rfl,
      (handedOn_self _ _).symm, fun _ _ => (flagOf_raiseSpark _ _ _).trans (if_pos rfl), fun h => absurd ⟨lost, .inl heat⟩ h⟩,
      others _ (by simp) _ rfl⟩
  case relightWait =>
    rw [keyLost_of_waiting (by exact gas) (by exact .inr heat)]
    exact ⟨⟨fun _ h => absurd (heat.symm.trans h) (by decide), fun _ h => absurd (heat.symm.trans h) (by decide), fun _ => rfl, fun _ => rfl,
      (handedOn_self _ _).symm, fun _ _ => (flagOf_raiseSpark _ _ _).trans (if_pos rfl), fun h => absurd ⟨lost, .inr (.inl heat)⟩ h⟩,
      others _ (by simp) _ rfl⟩
  all_goals
    rw [keyLost_of_idle (s := withArbiter a s) (.inr (by rw [show (withArbiter a s).gas = s.gas from rfl, heat]; decide))]
    exact ⟨⟨fun _ h => absurd (heat.symm.trans h) (by decide), fun _ h => absurd (heat.symm.trans h) (by decide), fun _ => rfl, fun _ => rfl,
      (handedOn_self _ _).symm, fun _ h => absurd h (by rw [heat]; decide), fun _ => rfl⟩, rfl⟩

theorem restatesSpark_of_leaves {a : SparkArbiter} (own : st = s.loader.options.address) (unqueued : (readSummary body c).queued = false)
    (present : { station := st, channel := c } ∈ s.arbiter.queue)
    (outstanding : a.freeOutstanding = s.arbiter.freeOutstanding.set c false)
    (left : { station := st, channel := c } ∉ a.queue) : restatesSpark st body c s (keyLost c (withArbiter a s)) := by
  have absent : (withArbiter a s).ownKey c ∉ (withArbiter a s).arbiter.queue := by
    rw [State.ownKey, show (withArbiter a s).loader = s.loader from rfl, ← own]
    exact left
  have wanted : ¬ joinsUnwanted st body c s := fun h => h.2.1 present
  have standing : (keyLost c (withArbiter a s)).arbiter.freeOutstanding[c] = (s.arbiter.freeOutstanding[c] && (readSummary body c).queued) := by
    rw [(keyLost_touches absent).1, unqueued, Bool.and_false, show (withArbiter a s).arbiter = a from rfl, outstanding]
    exact getElem_set_same _ _ c
  obtain ⟨burner, free⟩ := restatesBurner_keyLost (st := st) (body := body) (fun gas => ⟨gas, present, unqueued⟩) absent
  exact ⟨burner, fun _ => standing, fun h => absurd h wanted, fun _ => ⟨free, fun h => absurd present h⟩⟩

/-- The restatement of an own key, whole. -/
theorem restateSpark_own (own : st = s.loader.options.address) : restatesSpark st body c s (restateSpark st body s c) := by
  cases queued : (readSummary body c).queued <;> by_cases present : { station := st, channel := c } ∈ s.arbiter.queue
  · obtain ⟨a, leaves, outstanding, left⟩ := restateSpark_of_leaves own queued present
    rw [leaves]
    exact restatesSpark_of_leaves own queued present outstanding left
  · rw [restateSpark_of_absent queued present]
    exact restatesSpark_of_quiet (by simp [queued, present])
  · rw [restateSpark_of_present queued present]
    exact restatesSpark_of_quiet (by simp [queued, present])
  · obtain ⟨a, joins, outstanding, joined⟩ := restateSpark_of_joins own queued present
    rw [joins]
    exact restatesSpark_of_joins own queued present outstanding joined

end

end Sys2Proof.Machine
end

section
/-!
PROOF. The own echo of a PRESENCE (R98, R111): the spark keys of all own channels, and the failed attempts.
-/

namespace Sys2Proof.Machine

section
variable {st : Fin 8} {body : List Byte} {s : State}

/-! ## One key leaves the other channels -/

/-- What the restatement of channel `d`'s own key may touch. -/
theorem restateSpark_touches (own : st = s.loader.options.address) (d : Channel) :
    (∃ g, (restateSpark st body s d).gas = s.gas.set d g) ∧
    (∃ p, (restateSpark st body s d).programs = s.programs.set d p ∧
      (restateSpark st body s d).handovers = s.handovers.set d (handedOn s.programs[d] p s.handovers[d])) ∧
    ∃ b, (restateSpark st body s d).arbiter.freeOutstanding = s.arbiter.freeOutstanding.set d b := by
  have gasKept : ∃ g, s.gas = s.gas.set d g := ⟨_, (set_channel_self s.gas d).symm⟩
  have programsKept : ∃ p, s.programs = s.programs.set d p ∧ s.handovers = s.handovers.set d (handedOn s.programs[d] p s.handovers[d]) :=
    ⟨s.programs[d], (set_channel_self _ _).symm, by rw [handedOn_self, set_channel_self]⟩
  have outstandingKept : ∃ b, s.arbiter.freeOutstanding = s.arbiter.freeOutstanding.set d b := ⟨_, (set_channel_self _ d).symm⟩
  cases queued : (readSummary body d).queued <;> by_cases present : { station := st, channel := d } ∈ s.arbiter.queue
  · obtain ⟨a, leaves, outstanding, left⟩ := restateSpark_of_leaves own queued present
    have absent : (withArbiter a s).ownKey d ∉ (withArbiter a s).arbiter.queue := by
      rw [State.ownKey, show (withArbiter a s).loader = s.loader from rfl, ← own]
      exact left
    obtain ⟨arbiter, gases, programs⟩ := keyLost_touches absent
    rw [leaves]
    exact ⟨gases, programs, false, (congrArg SparkArbiter.freeOutstanding arbiter).trans outstanding⟩
  · rw [restateSpark_of_absent queued present]
    exact ⟨gasKept, programsKept, outstandingKept⟩
  · rw [restateSpark_of_present queued present]
    exact ⟨gasKept, programsKept, outstandingKept⟩
  · obtain ⟨a, joins, outstanding, -⟩ := restateSpark_of_joins own queued present
    have standing := standingFree_standing d (withArbiter a s)
    rw [joins]
    refine ⟨by simpa [withArbiter] using gasKept, by simpa [withArbiter] using programsKept,
      (standingFree d (withArbiter a s)).arbiter.freeOutstanding[d], ?_⟩
    rw [← outstanding]
    exact congrArg SparkArbiter.freeOutstanding standing

theorem restateSpark_other {c d : Channel} (own : st = s.loader.options.address) (other : d ≠ c) :
    sameSpark st c s (restateSpark st body s d) := by
  obtain ⟨⟨g, gases⟩, ⟨p, programs, handovers⟩, b, outstanding⟩ := restateSpark_touches (body := body) own d
  have only := restateSpark_only st body s d
  have differs : ({ station := st, channel := c } : Key) ≠ { station := st, channel := d } := fun same => other (congrArg Key.channel same).symm
  exact {
    program := by rw [programs]; exact getElem_set_other _ _ other.symm
    levels := by rw [handovers]; exact getElem_set_other _ _ other.symm
    burner := by rw [gases]; exact getElem_set_other _ _ other.symm
    outstanding := by rw [outstanding]; exact getElem_set_other _ _ other.symm
    queued := by
      rw [(restateSpark_queue st body s d).1]
      unfold restateQueue
      split
      · split <;> simp [differs]
      · simp [differs]
    spark := only.flag (by simp [sparkFlags, other.symm])
    free := only.flag (by simp [sparkFlags, other.symm])
    loader := by simp
    base := by simp }

/-! ## All four -/

theorem restateSparks_own (own : st = s.loader.options.address) (c : Channel) :
    restatesSpark st body c s (allChannels.foldl (restateSpark st body) s) := by
  obtain ⟨u, before, after⟩ := foldl_channels_step (Same := fun s t => st = s.loader.options.address → sameSpark st c s t)
    (f := restateSpark st body) c (fun s _ => .refl s)
    (fun s t u h g own => (h own).trans (g (by rw [(h own).loader]; exact own)))
    (fun d u other own => restateSpark_other own other) s
  have ownLater : st = u.loader.options.address := by rw [(before own).loader]; exact own
  exact (restateSpark_own ownLater).congr (before own) (after (by simpa using ownLater))

/-! ## The failed attempts (R104) -/

/-- The restatement of channel `c` fails its ignition attempt. -/
def failsAttempt (st : Fin 8) (body : List Byte) (s : State) (c : Channel) : Bool :=
  decide (s.kind c = .gas ∧ { station := st, channel := c } ∈ s.arbiter.queue ∧ (readSummary body c).queued = false ∧ s.gas[c].heat = .ignite)

theorem failsAttempt_iff {c : Channel} : failsAttempt st body s c = true ↔ losesKey st body c s ∧ s.gas[c].heat = .ignite := by
  simp [failsAttempt, losesKey, and_assoc]

theorem sameSpark.failsAttempt {c : Channel} {t : State} (same : sameSpark st c s t) : failsAttempt st body t c = failsAttempt st body s c := by
  rw [Bool.eq_iff_iff, failsAttempt_iff, failsAttempt_iff, same.loses, same.burner]

theorem keyLost_counters {c : Channel} (burns : ¬ (s.kind c = .gas ∧ s.gas[c].heat = .ignite)) : (keyLost c s).counters = s.counters := by
  by_cases gas : s.kind c = .gas
  case neg => rw [keyLost_of_idle (.inl gas)]
  cases heat : s.gas[c].heat
  case ignite => exact absurd ⟨gas, heat⟩ burns
  case waitSpark =>
    rw [keyLost_of_waiting gas (.inl heat)]
    rfl
  case relightWait =>
    rw [keyLost_of_waiting gas (.inr heat)]
    rfl
  case relightSpark =>
    rw [keyLost_of_relightSpark gas heat]
    rfl
  all_goals rw [keyLost_of_idle (.inr (by rw [heat]; decide))]

theorem restateSpark_counters (own : st = s.loader.options.address) (c : Channel) : (restateSpark st body s c).counters =
    { s.counters with ignitionFails :=
        if failsAttempt st body s c = true then saturate s.counters.ignitionFails else s.counters.ignitionFails } := by
  cases queued : (readSummary body c).queued <;> by_cases present : { station := st, channel := c } ∈ s.arbiter.queue
  · obtain ⟨a, leaves, -, left⟩ := restateSpark_of_leaves own queued present
    have absent : (withArbiter a s).ownKey c ∉ (withArbiter a s).arbiter.queue := by
      rw [State.ownKey, show (withArbiter a s).loader = s.loader from rfl, ← own]
      exact left
    rw [leaves]
    by_cases fails : failsAttempt st body s c = true
    · obtain ⟨⟨gas, -⟩, ignite⟩ := failsAttempt_iff.mp fails
      rw [keyLost_of_ignite (by exact gas) (by exact ignite) absent, if_pos fails]
      rfl
    · rw [if_neg fails]
      refine keyLost_counters fun ⟨gas, ignite⟩ => fails (failsAttempt_iff.mpr ⟨⟨gas, present, queued⟩, ignite⟩)
  · have none : failsAttempt st body s c = false := by simp [failsAttempt, present]
    rw [restateSpark_of_absent queued present, none]
    rfl
  · have none : failsAttempt st body s c = false := by simp [failsAttempt, queued]
    rw [restateSpark_of_present queued present, none]
    rfl
  · obtain ⟨a, joins, -⟩ := restateSpark_of_joins own queued present
    have none : failsAttempt st body s c = false := by simp [failsAttempt, queued]
    rw [joins, none]
    simp [withArbiter]

theorem restateSparks_counters (own : st = s.loader.options.address) {cs : List Channel} (once : cs.Nodup) :
    (cs.foldl (restateSpark st body) s).counters =
      { s.counters with ignitionFails := saturate^[(cs.filter (failsAttempt st body s)).length] s.counters.ignitionFails } := by
  induction cs generalizing s with
  | nil => rfl
  | cons c cs ih =>
    obtain ⟨absent, once'⟩ := List.nodup_cons.mp once
    have later : cs.filter (failsAttempt st body (restateSpark st body s c)) = cs.filter (failsAttempt st body s) :=
      List.filter_congr fun d mem => (restateSpark_other own (c := d) fun same => absent (by rwa [same])).failsAttempt
    rw [List.foldl_cons, ih (by simpa using own) once', later, restateSpark_counters own]
    by_cases fails : failsAttempt st body s c = true
    · rw [if_pos fails, List.filter_cons_of_pos fails]
      rfl
    · rw [if_neg fails, List.filter_cons_of_neg fails]

end

end Sys2Proof.Machine
end

section
/-!
PROOF. PRESENCE (R16, R17, R42, R52, R53, R85, R97, R98, R100, R104, R111, R112, R130, R151, R152, R161): its two cases.
-/

namespace Sys2Proof.Machine

section
variable {f : RxFrame} {rest : List RxFrame} {st : Fin 8} {body : List Byte} {s t : State}

/-! ## The restatement, as a channel summary states it -/

theorem restatesAll.summary (h : restatesAll st body s t) (c : Channel) :
    let m := readSummary body c
    let k : Key := { station := st, channel := c }
    let claims := m.kindField = 1 ∧ m.claimed = true
    let inRange := m.cls ≤ 3 ∧ 1 ≤ m.current ∧ m.current ≤ 250 ∧ 1 ≤ m.slots ∧ m.slots ≤ s.burst
    (k ∈ t.arbiter.queue ↔ m.queued = true) ∧
    (claims → inRange → findEntry k t.plan.table = some
      { key := k, current := m.current, slots := m.slots, cls := m.cls, placedLast := entryFlag k s.plan.table }) ∧
    (claims → ¬ inRange → findEntry k t.plan.table = findEntry k s.plan.table) ∧
    (¬ claims → findEntry k t.plan.table = none) := by
  intro m k claims inRange
  obtain ⟨-, -, -, own⟩ := h
  obtain ⟨queued, entry⟩ := own c
  have fits : claimInRange s.burst (statedContent m) = true ↔ inRange := claimInRange_iff _ _
  refine ⟨queued, fun stated within => entry.trans ?_, fun stated without => entry.trans ?_, fun unstated => entry.trans ?_⟩
  · rw [restatedEntry, if_pos stated, if_pos (fits.mpr within)]
    rfl
  · rw [restatedEntry, if_pos stated, if_neg (mt fits.mp without)]
  · exact if_neg unstated

/-! ## From another node -/

theorem presence_of_node (delivers : s.delivers .presence f rest) (station : st.val = f.source.val) (other : s.isOwn f.source = false) :
    let shift : Int := ((presencePhase f.body : Int) - f.openerPhase) % s.burst
    ∃ t, exec .presence s = .next t ∧ restatesAll st f.body s t ∧
      t = { s.popped rest with
        base := { s.base with phase := t.base.phase }, elements := t.elements, plan := t.plan, peers := t.peers
        arbiter := { s.arbiter with queue := t.arbiter.queue, dwell := t.arbiter.dwell }, counters := t.counters } ∧
      (t.peers.phaseSource ≠ some f.source ∨ shift = 0 →
        t.base = s.base ∧ t.elements = s.elements ∧ t.counters = s.counters ∧
        t.plan = { s.plan with table := t.plan.table, budget := t.plan.budget }) ∧
      (t.peers.phaseSource = some f.source → shift ≠ 0 →
        (t.base.phase : Int) = (s.base.phase + shift) % s.burst ∧
        (∀ c : Channel, t.elements[c] = { s.elements[c] with relay := false }) ∧
        t.counters = { s.counters with phaseAdjusts := saturate s.counters.phaseAdjusts } ∧
        t.plan = { s.plan with
          table := t.plan.table, budget := t.plan.budget, current := [], next := [], computed := false }) := by
  intro shift
  obtain ⟨taken, only⟩ := exec_presence_of_node delivers station other
  obtain ⟨table, arbiter, loader, peers, -⟩ := adopted_kept f (s.popped rest)
  have burst : (adopted f (s.popped rest)).burst = s.burst := by rw [State.burst, State.burst, loader]; rfl
  have shifts : (phaseShift s.burst (presencePhase f.body) f.openerPhase : Int) = shift := phaseShift_eq (burst_pos s) _ _
  have plan := restateAll_plan st f.body (adopted f (s.popped rest))
  obtain ⟨p, q, d, shape⟩ := only
  have record : (withRecord f (s.popped rest)).peers = (restateAll st f.body (adopted f (s.popped rest))).peers := by
    rw [(restateAll_frame _ _ _).2.2.1, peers]
  refine ⟨_, taken, restatesAll_of_restateAll st f.body table arbiter burst rfl rfl, ?_, fun same => ?_, fun source differs => ?_⟩
  · rw [shape]
    by_cases same : (withRecord f (s.popped rest)).peers.phaseSource ≠ some f.source ∨
        phaseShift (s.popped rest).burst (presencePhase f.body) f.openerPhase = 0
    · rw [adopted_of_same same]
      rfl
    · obtain ⟨source, differs⟩ := not_or.mp same
      rw [adopted_of_shift (not_not.mp source) differs]
      rfl
  · rw [← record, ← shifts] at same
    have keeps := adopted_of_same (s := s.popped rest) (same.imp id fun h => by exact_mod_cast h)
    rw [plan, shape, keeps]
    exact ⟨rfl, rfl, rfl, rfl⟩
  · rw [← record] at source
    rw [← shifts] at differs
    have moves := adopted_of_shift source (s := s.popped rest) (by exact_mod_cast differs)
    rw [plan, shape, moves]
    refine ⟨?_, clearMaps_elements _, rfl, rfl⟩
    rw [← shifts]
    push_cast
    rfl

/-! ## The own echo -/

theorem restateClaims_only (st : Fin 8) (body : List Byte) (s : State) :
    onlyFlags (fun r => ∃ c, claimFlags c r) s.tx (allChannels.foldl (restateClaim st body) s).tx :=
  foldl_channels_keeps (P := fun u => onlyFlags (fun r => ∃ c, claimFlags c r) s.tx u.tx) _
    (fun u c kept => kept.trans ((restateClaim_only st body u c).mono fun _ h => ⟨c, h⟩)) s (onlyFlags.refl _ _)

theorem restateSparks_only (st : Fin 8) (body : List Byte) (s : State) :
    onlyFlags (fun r => ∃ c, sparkFlags c r) s.tx (allChannels.foldl (restateSpark st body) s).tx :=
  foldl_channels_keeps (P := fun u => onlyFlags (fun r => ∃ c, sparkFlags c r) s.tx u.tx) _
    (fun u c kept => kept.trans ((restateSpark_only st body u c).mono fun _ h => ⟨c, h⟩)) s (onlyFlags.refl _ _)

/-- The node after its own PRESENCE. -/
def ownEcho (body : List Byte) (s : State) : State :=
  noteReports s (restateAll s.loader.options.address body (recomputeDerived s))

/-- The claims restated first leave what the spark keys are restated from. -/
theorem restateClaims_spark (st : Fin 8) (body : List Byte) (s : State) (c : Channel) :
    sameSpark st c s (allChannels.foldl (restateClaim st body) (recomputeDerived s)) := by
  have claims := restateClaims_only st body (recomputeDerived s)
  exact {
    program := by simp [allChannels]
    levels := by simp [allChannels]
    burner := by simp [allChannels]
    outstanding := by simp [allChannels]
    queued := by simp [allChannels]
    spark := claims.flag (by simp [claimFlags])
    free := claims.flag (by simp [claimFlags])
    loader := by simp [allChannels]
    base := by simp [allChannels] }

/-- The own PRESENCE on channel `c`'s spark key. -/
theorem ownEcho_spark (own : st = s.loader.options.address) (c : Channel) : restatesSpark st body c s (ownEcho body s) := by
  subst own
  have after : sameSpark s.loader.options.address c (restateAll s.loader.options.address body (recomputeDerived s)) (ownEcho body s) := {
    program := by simp [ownEcho]
    levels := by simp [ownEcho]
    burner := by simp [ownEcho]
    outstanding := by simp [ownEcho]
    queued := by simp [ownEcho]
    spark := noteReports_flag _ c (by decide)
    free := noteReports_flag _ c (by decide)
    loader := by simp [ownEcho]
    base := by simp [ownEcho] }
  exact (restateSparks_own (by simp [allChannels]) c).congr (restateClaims_spark _ body s c) after

/-- The own PRESENCE on channel `c`'s claim entry. -/
theorem ownEcho_claim (own : st = s.loader.options.address) (c : Channel) :
    let new := findEntry { station := st, channel := c } (ownEcho body s).plan.table
    (releasesEntry st c s new →
      flagOf (ownEcho body s).tx (.ofChannel .release c) = raised (flagOf s.tx (.ofChannel .release c)) ∧
      flagOf (ownEcho body s).tx (.ofChannel .claim c) = lowered (flagOf s.tx (.ofChannel .claim c))) ∧
    (¬ releasesEntry st c s new →
      flagOf (ownEcho body s).tx (.ofChannel .release c) = flagOf s.tx (.ofChannel .release c) ∧
      flagOf (ownEcho body s).tx (.ofChannel .claim c) = flagOf s.tx (.ofChannel .claim c)) := by
  subst own
  intro new
  have sparks := restateSparks_only s.loader.options.address body
    (allChannels.foldl (restateClaim s.loader.options.address body) (recomputeDerived s))
  have table : (ownEcho body s).plan.table =
      (allChannels.foldl (restateClaim s.loader.options.address body) (recomputeDerived s)).plan.table := by
    simp [ownEcho, restateAll, allChannels]
  have kept : ∀ k, k = .release ∨ k = .claim → flagOf (ownEcho body s).tx (.ofChannel k c) =
      flagOf (allChannels.foldl (restateClaim s.loader.options.address body) (recomputeDerived s)).tx (.ofChannel k c) := by
    rintro k (rfl | rfl)
    all_goals exact (noteReports_flag _ c (by decide)).trans (sparks.flag (by simp [sparkFlags]))
  have claims := restateClaims_own s.loader.options.address body (s := recomputeDerived s) rfl c
  dsimp only at claims
  rw [← table, ← kept .release (.inl rfl), ← kept .claim (.inr rfl)] at claims
  exact claims

/-- The reports of the own PRESENCE are of the channels whose burner or record has changed. -/
theorem ownEcho_state (c : Channel) :
    (s.kind c = .gas → (ownEcho body s).gas[c].heat ≠ s.gas[c].heat → (ownEcho body s).asked (.ofChannel .state c) = true) ∧
    ((ownEcho body s).gas[c] = s.gas[c] → (ownEcho body s).programs[c] = s.programs[c] →
      flagOf (ownEcho body s).tx (.ofChannel .state c) = flagOf s.tx (.ofChannel .state c)) := by
  have options : (restateAll s.loader.options.address body (recomputeDerived s)).loader.options = s.loader.options := by simp
  have gas : (ownEcho body s).gas = (restateAll s.loader.options.address body (recomputeDerived s)).gas := by simp [ownEcho]
  have programs : (ownEcho body s).programs = (restateAll s.loader.options.address body (recomputeDerived s)).programs := by simp [ownEcho]
  have reports := reportedOf_eq_iff options c
  rw [gas, programs]
  refine ⟨fun kind differs => asked_noteReports fun same => ?_, fun burner program => ?_⟩
  · obtain ⟨-, -, -, -, -, -, burner⟩ := reports.mp same
    exact differs (burner kind).1
  · have same := reports.mpr (by rw [burner, program]; simp)
    have claims := restateClaims_only s.loader.options.address body (recomputeDerived s)
    have sparks := restateSparks_only s.loader.options.address body
      (allChannels.foldl (restateClaim s.loader.options.address body) (recomputeDerived s))
    rw [ownEcho, flagOf_noteReports_state, if_pos same]
    exact (sparks.flag (by simp [sparkFlags])).trans (claims.flag (by simp [claimFlags]))

theorem ownEcho_only : onlyFlags (fun r => ∃ c, r = .ofChannel .release c ∨ r = .ofChannel .claim c ∨ r = .ofChannel .spark c ∨
    r = .ofChannel .sparkFree c ∨ r = .ofChannel .state c) s.tx (ownEcho body s).tx := by
  have claims := restateClaims_only s.loader.options.address body (recomputeDerived s)
  have sparks := restateSparks_only s.loader.options.address body
    (allChannels.foldl (restateClaim s.loader.options.address body) (recomputeDerived s))
  have reports := noteReports_only s (restateAll s.loader.options.address body (recomputeDerived s))
  refine ((claims.mono ?_).trans (sparks.mono ?_)).trans (reports.mono ?_)
  · rintro r ⟨c, claim | release⟩
    · exact ⟨c, .inr (.inl claim)⟩
    · exact ⟨c, .inl release⟩
  · rintro r ⟨c, spark | free⟩
    · exact ⟨c, .inr (.inr (.inl spark))⟩
    · exact ⟨c, .inr (.inr (.inr (.inl free)))⟩
  · rintro r ⟨c, state, -⟩
    exact ⟨c, .inr (.inr (.inr (.inr state)))⟩

theorem ownEcho_counters (own : st = s.loader.options.address) : (ownEcho body s).counters = { s.counters with
    ignitionFails := saturate^[(allChannels.filter (failsAttempt st body s)).length] s.counters.ignitionFails } := by
  subst own
  have counters := restateSparks_counters (st := s.loader.options.address) (body := body)
    (s := allChannels.foldl (restateClaim s.loader.options.address body) (recomputeDerived s)) (by simp [allChannels]) allChannels_nodup
  have claims : (allChannels.foldl (restateClaim s.loader.options.address body) (recomputeDerived s)).counters = s.counters := by
    simp [allChannels]
  have fails : allChannels.filter (failsAttempt s.loader.options.address body
      (allChannels.foldl (restateClaim s.loader.options.address body) (recomputeDerived s))) =
      allChannels.filter (failsAttempt s.loader.options.address body s) :=
    List.filter_congr fun c _ => (restateClaims_spark _ body s c).failsAttempt
  have last : (ownEcho body s).counters = (restateAll s.loader.options.address body (recomputeDerived s)).counters := by simp [ownEcho]
  rw [fails, claims] at counters
  exact last.trans counters

theorem ownEcho_frame : ownEcho body s = { s with
    programs := (ownEcho body s).programs, handovers := (ownEcho body s).handovers, gas := (ownEcho body s).gas
    tx := (ownEcho body s).tx, peers := (ownEcho body s).peers, arbiter := (ownEcho body s).arbiter
    plan := { s.plan with table := (ownEcho body s).plan.table, budget := (ownEcho body s).plan.budget }
    counters := { s.counters with ignitionFails := (ownEcho body s).counters.ignitionFails } } := by
  have counters : (ownEcho body s).counters = { s.counters with ignitionFails := (ownEcho body s).counters.ignitionFails } := by
    rw [ownEcho_counters rfl]
  rw [State.eq_iff]
  have plan : (ownEcho body s).plan = (restateAll s.loader.options.address body (recomputeDerived s)).plan := by simp [ownEcho]
  rw [restateAll_plan] at plan
  refine ⟨by simp [ownEcho], rfl, rfl, by simp [ownEcho], rfl, by rw [plan]; rfl, rfl, rfl, by simp [ownEcho], by simp [ownEcho], rfl, counters,
    by simp [ownEcho], by simp [ownEcho], by simp [ownEcho], by simp [ownEcho]⟩

theorem ownEcho_restates (own : st = s.loader.options.address) : restatesAll st body s (ownEcho body s) := by
  subst own
  exact restatesAll_of_restateAll _ body (u := recomputeDerived s) rfl rfl rfl (by simp [ownEcho]) (by simp [ownEcho])

theorem exec_ownPresence (delivers : s.delivers .presence f rest) (own : s.isOwn f.source = true) (marked : f.own = true) :
    exec .presence s = .next (ownEcho f.body (s.popped rest)) := by
  rw [exec_presence delivers, takePresence_of_own (by exact own) marked]
  rfl

end

end Sys2Proof.Machine
end

section
/-!
PROOF. PRESENCE (R16, R17, R52, R53): the obligation.
-/

namespace Sys2Proof.Machine

/-- Settles O53: the phase adopted, the entries and keys restated, and what the own echo does to its channels. -/
theorem presenceAdoptsAndRestates : Obligations.PresenceAdoptsAndRestates := by
  refine ⟨?_, fun f rest st s delivers station => ?_⟩
  · intro body b
    exact ⟨rfl, rfl, rfl, rfl, readSummary_eq body⟩
  intro shift key restated
  have states : ∀ t, restatesAll st f.body s t → restated t := fun t h => by
    obtain ⟨others, queue, dwell, -⟩ := id h
    exact ⟨others, queue, dwell, h.summary⟩
  refine ⟨fun other => ?_, fun isOwn marked => ?_⟩
  · obtain ⟨t, taken, restates, rest⟩ := presence_of_node delivers station other
    exact ⟨t, taken, states t restates, rest⟩
  intro lost
  have own : st = s.loader.options.address := Fin.ext (station.trans ((isOwn_iff s f.source).mp isOwn))
  have restates : restatesAll st f.body s (ownEcho f.body (s.popped rest)) := ownEcho_restates (s := s.popped rest) own
  refine ⟨ownEcho f.body (s.popped rest), exec_ownPresence delivers isOwn marked, states _ restates, ?_, ?_,
    ownEcho_only (body := f.body) (s := s.popped rest), fun c => ?_⟩
  · exact ownEcho_frame (body := f.body) (s := s.popped rest)
  · exact congrArg Counters.ignitionFails (ownEcho_counters (body := f.body) (s := s.popped rest) own)
  intro g p asks fails falls frees releases flag flag'
  obtain ⟨spark, outstanding, freed, keepsFree⟩ := ownEcho_spark (body := f.body) (s := s.popped rest) own c
  obtain ⟨fallen, failed, keepsBurner, keepsProgram, levels, asked, keepsSpark⟩ := spark
  obtain ⟨released, keepsRelease⟩ := ownEcho_claim (body := f.body) (s := s.popped rest) own c
  obtain ⟨shown, quiet⟩ := ownEcho_state (body := f.body) (s := s.popped rest) c
  obtain ⟨purge, lockout⟩ := failedBurner_cases (s.popped rest) g p
  obtain ⟨ends, keepsEnded, keeps⟩ := lockedOutProgram_cases .ignitionLockout p
  have burnerKept : ¬ falls → ¬ fails → (ownEcho f.body (s.popped rest)).gas[c] = g := fun unfallen unfailed =>
    keepsBurner fun ⟨loses, heat⟩ => heat.elim (fun relight => unfallen ⟨loses, relight⟩) fun ignite => unfailed ⟨loses, ignite⟩
  have programKept : ¬ fails → (ownEcho f.body (s.popped rest)).programs[c] = p := keepsProgram
  refine ⟨?falls, ?purges, ?locks, burnerKept, programKept, levels, outstanding, ?asks, keepsSpark, freed, keepsFree, ?releases, ?keepsRelease,
    ?shown, ?quiet⟩
  case falls => exact fun ⟨loses, relight⟩ => fallen loses relight
  case purges =>
    rintro ⟨loses, ignite⟩ left
    obtain ⟨burner, program⟩ := failed loses ignite
    exact ⟨program.trans (purge left).1, burner.trans (purge left).2⟩
  case locks =>
    rintro ⟨loses, ignite⟩ none
    obtain ⟨burner, program⟩ := failed loses ignite
    have locked := program.trans (lockout none).1
    exact ⟨burner.trans (lockout none).2, fun state => locked.trans (ends state), fun state => locked.trans (keepsEnded state),
      fun state => locked.trans (keeps state)⟩
  case asks => exact fun ⟨loses, heat⟩ => asked loses heat
  case releases => exact fun ⟨element, idle, unasked, present, changed⟩ => released ⟨element, idle, unasked, present, changed⟩
  case keepsRelease => exact keepsRelease
  case shown =>
    rintro (⟨loses, relight⟩ | ⟨loses, ignite⟩)
    · refine shown loses.1 fun same => ?_
      rw [fallen loses relight] at same
      exact GasHeat.noConfusion (same.trans relight)
    · refine shown loses.1 fun same => ?_
      rw [(failed loses ignite).1] at same
      have heat := same.trans ignite
      rcases failedBurner_heat (s.popped rest) g with stopped | stopped
      all_goals exact absurd (stopped.symm.trans heat) (by decide)
  case quiet => exact fun unfallen unfailed => quiet (burnerKept unfallen unfailed) (programKept unfailed)

end Sys2Proof.Machine
end
